-- ==== Sys2Proof/Word.lean ====
section
/-! DEFINITION. The word types of the Rua-1 (`00_scope.md` R5): 8-bit data, 16-bit addresses. -/

namespace Sys2Proof

/-- A data byte: registers A, B, X, Y, SP, SR, the data bus, a memory cell (R5). Bit 0 is the least significant (R7). -/
abbrev Byte := BitVec 8

/-- An address: PC and the address bus (R5, `20_memory.md` R51). -/
abbrev Addr := BitVec 16

end Sys2Proof
end

