-- ==== Sys2Proof/Machine/Bytes.lean ====
section
/-! DEFINITION. Byte order, in one place (`20_memory.md` R52 to R54), and a byte from its bits. -/

namespace Sys2Proof

/-- The 16-bit value whose high byte is `hi` and low byte is `lo`: the spec's concatenation {hi, lo} (`00_scope.md` R8). -/
def joinBytes (hi lo : Byte) : Addr := hi ++ lo

/-- `v[7:0]` of a 16-bit value. -/
def lowByte (v : Addr) : Byte := v.extractLsb' 0 8

/-- `v[15:8]` of a 16-bit value. -/
def highByte (v : Addr) : Byte := v.extractLsb' 8 8

/-- The byte whose bits are given, bit 7 first, as the spec writes them (`00_scope.md` R7, R8). -/
def ofBits (b7 b6 b5 b4 b3 b2 b1 b0 : Bool) : Byte := BitVec.ofBoolListBE [b7, b6, b5, b4, b3, b2, b1, b0]

end Sys2Proof
end

