-- ==== Sys2Proof/Config.lean ====
section
/-! DEFINITION. What an implementation of the Rua-1 fixes (`00_scope.md` R6), the byte an unlisted memory
address reads as, and the one free value of the model. -/

namespace Sys2Proof

/-- The named parameters of `00_scope.md` R6. `INIT_MEM` is not here: it is the memory a run starts with
(`Machine.State.start`). The parameters stand in the state, where no instruction writes them, so that every
statement about all states holds for every value of them (log 3). -/
structure Params where
  /-- `STACK_PAGE`: the high byte of every address formed from SP (`20_memory.md` R56). -/
  stackPage : Byte
  /-- `RESET_PC`: PC after reset (`70_reset_and_hazards.md` R260). -/
  resetPc : Addr
  /-- `IO_REGION`: the addresses an extension card answers (`20_memory.md` R63), a set: only membership is used. -/
  ioRegion : List Addr
  deriving DecidableEq, Repr

/-- The defaults of `00_scope.md` R6: page 0x00, entry 0x0000, no extension card. -/
def Params.default : Params := { stackPage := 0x00, resetPc := 0x0000, ioRegion := [] }

namespace Config

/-- What a memory address reads as that the memory list does not name. DESIGN CHOICE, unsafe (log 2): the spec
leaves cells a run does not supply at any value (`70_reset_and_hazards.md` R262). -/
def unlistedByte : Byte := 0x00

/-- The free value of the model (log 4): what the environment answers to the read number `n` of an
`IO_REGION` address (`20_memory.md` R63: "a value chosen by the environment"). It has no body. -/
opaque ioAnswer (n : Nat) (a : Addr) : Byte

end Config

end Sys2Proof
end

