-- ==== Sys2Proof/Syntax.lean ====
section
/-! DEFINITION. The instructions of the Rua-1: one constructor per row of `spec/opcode_table.json`, in its order
(`30_encoding.md` R89), and the names of the operands.

A MOV is named source first, destination second (`40_move.md` R110). `AtSP` and `AtXY` are the memory operands
`[SP]` and `[XY]` (R84), `Mem` is the byte at the absolute address `adr` (R87), `Imm` is `imm8` (R86). -/

namespace Sys2Proof

/-- The six 8-bit registers an instruction can name (`10_state.md` R20), in the order of their REG codes 0 to 5. -/
inductive Reg where
  | A | B | X | Y | SP | SR
  deriving DecidableEq, Repr

/-- What the 3-bit `reg` field can name (`30_encoding.md` R84): a register, or the memory byte at the stack address
(code 6) or at XY (code 7). -/
inductive Operand where
  | reg (r : Reg)
  | atSP
  | atXY
  deriving DecidableEq, Repr

/-- The 152 instructions of the opcode table. -/
inductive Instr where
  /-- 0x00 MOV A, B (R112). -/
  | movAToB
  /-- 0x01 MOV A, X (R112). -/
  | movAToX
  /-- 0x02 MOV A, Y (R112). -/
  | movAToY
  /-- 0x03 MOV A, SP (R112). -/
  | movAToSP
  /-- 0x04 MOV A, SR (R112). -/
  | movAToSR
  /-- 0x05 MOV B, A (R112). -/
  | movBToA
  /-- 0x06 MOV B, X (R112). -/
  | movBToX
  /-- 0x07 MOV B, Y (R112). -/
  | movBToY
  /-- 0x08 MOV B, SP (R112). -/
  | movBToSP
  /-- 0x09 MOV B, SR (R112). -/
  | movBToSR
  /-- 0x0A MOV X, A (R112). -/
  | movXToA
  /-- 0x0B MOV X, B (R112). -/
  | movXToB
  /-- 0x0C MOV Y, A (R112). -/
  | movYToA
  /-- 0x0D MOV Y, B (R112). -/
  | movYToB
  /-- 0x0E MOV SP, A (R112). -/
  | movSPToA
  /-- 0x0F MOV SR, A (R112). -/
  | movSRToA
  /-- 0x10 MOV A, imm8 (R111). -/
  | movAToImm (imm : Byte)
  /-- 0x11 MOV B, imm8 (R111). -/
  | movBToImm (imm : Byte)
  /-- 0x12 MOV X, imm8 (R111). -/
  | movXToImm (imm : Byte)
  /-- 0x13 MOV Y, imm8 (R111). -/
  | movYToImm (imm : Byte)
  /-- 0x14 MOV SP, imm8 (R111). -/
  | movSPToImm (imm : Byte)
  /-- 0x15 MOV SR, imm8 (R111). -/
  | movSRToImm (imm : Byte)
  /-- 0x16 MOV [SP], imm8 (R111). -/
  | movAtSPToImm (imm : Byte)
  /-- 0x17 MOV [XY], imm8 (R111). -/
  | movAtXYToImm (imm : Byte)
  /-- 0x18 MOV imm8, A (R113). -/
  | movImmToA (imm : Byte)
  /-- 0x19 MOV imm8, B (R113). -/
  | movImmToB (imm : Byte)
  /-- 0x1A MOV imm8, X (R113). -/
  | movImmToX (imm : Byte)
  /-- 0x1B MOV imm8, Y (R113). -/
  | movImmToY (imm : Byte)
  /-- 0x1C MOV imm8, SP (R113). -/
  | movImmToSP (imm : Byte)
  /-- 0x1D MOV imm8, SR (R113). -/
  | movImmToSR (imm : Byte)
  /-- 0x1E MOV imm8, [SP] (R113). -/
  | movImmToAtSP (imm : Byte)
  /-- 0x1F MOV imm8, [XY] (R113). -/
  | movImmToAtXY (imm : Byte)
  /-- 0x20 MOV A, [mem] (R114). -/
  | movAToMem (adr : Addr)
  /-- 0x21 MOV B, [mem] (R114). -/
  | movBToMem (adr : Addr)
  /-- 0x22 MOV X, [mem] (R114). -/
  | movXToMem (adr : Addr)
  /-- 0x23 MOV Y, [mem] (R114). -/
  | movYToMem (adr : Addr)
  /-- 0x24 MOV SP, [mem] (R114). -/
  | movSPToMem (adr : Addr)
  /-- 0x25 MOV SR, [mem] (R114). -/
  | movSRToMem (adr : Addr)
  /-- 0x26 MOV [SP], [mem] (R114). -/
  | movAtSPToMem (adr : Addr)
  /-- 0x27 MOV [XY], [mem] (R114). -/
  | movAtXYToMem (adr : Addr)
  /-- 0x28 MOV [mem], A (R115). -/
  | movMemToA (adr : Addr)
  /-- 0x29 MOV [mem], B (R115). -/
  | movMemToB (adr : Addr)
  /-- 0x2A MOV [mem], X (R115). -/
  | movMemToX (adr : Addr)
  /-- 0x2B MOV [mem], Y (R115). -/
  | movMemToY (adr : Addr)
  /-- 0x2C MOV [mem], SP (R115). -/
  | movMemToSP (adr : Addr)
  /-- 0x2D MOV [mem], SR (R115). -/
  | movMemToSR (adr : Addr)
  /-- 0x2E MOV [mem], [SP] (R115). -/
  | movMemToAtSP (adr : Addr)
  /-- 0x2F MOV [mem], [XY] (R115). -/
  | movMemToAtXY (adr : Addr)
  /-- 0x30 PUSH A (R192). -/
  | pushA
  /-- 0x31 PUSH B (R192). -/
  | pushB
  /-- 0x32 PUSH X (R192). -/
  | pushX
  /-- 0x33 PUSH Y (R192). -/
  | pushY
  /-- 0x34 PUSH imm8 (R193). -/
  | pushImm (imm : Byte)
  /-- 0x35 PUSH SR (R192). -/
  | pushSR
  /-- 0x36 PUSH [mem] (R194). -/
  | pushMem (adr : Addr)
  /-- 0x37 PUSH [XY] (R195). -/
  | pushAtXY
  /-- 0x38 POP A (R196). -/
  | popA
  /-- 0x39 POP B (R196). -/
  | popB
  /-- 0x3A POP X (R196). -/
  | popX
  /-- 0x3B POP Y (R196). -/
  | popY
  /-- 0x3D POP SR (R196). -/
  | popSR
  /-- 0x3E POP [mem] (R197). -/
  | popMem (adr : Addr)
  /-- 0x3F POP [xy] (R198). -/
  | popAtXY
  /-- 0x40 ADD A (R156). -/
  | addA
  /-- 0x41 ADD B (R156). -/
  | addB
  /-- 0x42 ADD X (R156). -/
  | addX
  /-- 0x43 ADD Y (R156). -/
  | addY
  /-- 0x44 ADD SP (R156). -/
  | addSP
  /-- 0x45 ADD [mem] (R157). -/
  | addMem (adr : Addr)
  /-- 0x46 ADD [SP] (R156). -/
  | addAtSP
  /-- 0x47 ADD [XY] (R156). -/
  | addAtXY
  /-- 0x48 SUB A (R158). -/
  | subA
  /-- 0x49 SUB B (R158). -/
  | subB
  /-- 0x4A SUB X (R158). -/
  | subX
  /-- 0x4B SUB Y (R158). -/
  | subY
  /-- 0x4C SUB SP (R158). -/
  | subSP
  /-- 0x4D SUB [mem] (R159). -/
  | subMem (adr : Addr)
  /-- 0x4E SUB [SP] (R158). -/
  | subAtSP
  /-- 0x4F SUB [XY] (R158). -/
  | subAtXY
  /-- 0x50 ADC A (R160). -/
  | adcA
  /-- 0x51 ADC B (R160). -/
  | adcB
  /-- 0x52 ADC X (R160). -/
  | adcX
  /-- 0x53 ADC Y (R160). -/
  | adcY
  /-- 0x54 ADC SP (R160). -/
  | adcSP
  /-- 0x55 ADC [mem] (R161). -/
  | adcMem (adr : Addr)
  /-- 0x56 ADC [SP] (R160). -/
  | adcAtSP
  /-- 0x57 ADC [XY] (R160). -/
  | adcAtXY
  /-- 0x58 LSH A (R162). -/
  | lshA
  /-- 0x59 LSH B (R162). -/
  | lshB
  /-- 0x5A LSH X (R162). -/
  | lshX
  /-- 0x5B LSH Y (R162). -/
  | lshY
  /-- 0x5C LSH SP (R162). -/
  | lshSP
  /-- 0x5D LSH [mem] (R163). -/
  | lshMem (adr : Addr)
  /-- 0x5E LSH [SP] (R162). -/
  | lshAtSP
  /-- 0x5F LSH [XY] (R162). -/
  | lshAtXY
  /-- 0x60 RSH A (R164). -/
  | rshA
  /-- 0x61 RSH B (R164). -/
  | rshB
  /-- 0x62 RSH X (R164). -/
  | rshX
  /-- 0x63 RSH Y (R164). -/
  | rshY
  /-- 0x64 RSH SP (R164). -/
  | rshSP
  /-- 0x65 RSH [mem] (R165). -/
  | rshMem (adr : Addr)
  /-- 0x66 RSH [SP] (R164). -/
  | rshAtSP
  /-- 0x67 RSH [XY] (R164). -/
  | rshAtXY
  /-- 0x68 OR A (R166). -/
  | orA
  /-- 0x69 OR B (R166). -/
  | orB
  /-- 0x6A OR X (R166). -/
  | orX
  /-- 0x6B OR Y (R166). -/
  | orY
  /-- 0x6C OR SP (R166). -/
  | orSP
  /-- 0x6D OR [mem] (R167). -/
  | orMem (adr : Addr)
  /-- 0x6E OR [SP] (R166). -/
  | orAtSP
  /-- 0x6F OR [XY] (R166). -/
  | orAtXY
  /-- 0x70 AND A (R168). -/
  | andA
  /-- 0x71 AND B (R168). -/
  | andB
  /-- 0x72 AND X (R168). -/
  | andX
  /-- 0x73 AND Y (R168). -/
  | andY
  /-- 0x74 AND SP (R168). -/
  | andSP
  /-- 0x75 AND [mem] (R169). -/
  | andMem (adr : Addr)
  /-- 0x76 AND [SP] (R168). -/
  | andAtSP
  /-- 0x77 AND [XY] (R168). -/
  | andAtXY
  /-- 0x78 XOR A (R170). -/
  | xorA
  /-- 0x79 XOR B (R170). -/
  | xorB
  /-- 0x7A XOR X (R170). -/
  | xorX
  /-- 0x7B XOR Y (R170). -/
  | xorY
  /-- 0x7C XOR SP (R170). -/
  | xorSP
  /-- 0x7D XOR [mem] (R171). -/
  | xorMem (adr : Addr)
  /-- 0x7E XOR [SP] (R170). -/
  | xorAtSP
  /-- 0x7F XOR [XY] (R170). -/
  | xorAtXY
  /-- 0x80 CMP (R172). -/
  | cmp
  /-- 0x81 INC (R173). -/
  | inc
  /-- 0x82 DEC (R174). -/
  | dec
  /-- 0xC0 CALL (R199). -/
  | call (adr : Addr)
  /-- 0xC1 RET (R200). -/
  | ret
  /-- 0xD0 JMP (R131). -/
  | jmp (adr : Addr)
  /-- 0xD1 JO (R132). -/
  | jo (adr : Addr)
  /-- 0xD2 JNO (R133). -/
  | jno (adr : Addr)
  /-- 0xD3 JS (R134). -/
  | js (adr : Addr)
  /-- 0xD4 JNS (R135). -/
  | jns (adr : Addr)
  /-- 0xD5 JE/JZ (R136). -/
  | je (adr : Addr)
  /-- 0xD6 JNE/JNZ (R137). -/
  | jne (adr : Addr)
  /-- 0xD7 JB/JC (R138). -/
  | jb (adr : Addr)
  /-- 0xD8 JNB/JNC (R139). -/
  | jnb (adr : Addr)
  /-- 0xD9 JBE (R140). -/
  | jbe (adr : Addr)
  /-- 0xDA JA (R141). -/
  | ja (adr : Addr)
  /-- 0xDB JL (R142). -/
  | jl (adr : Addr)
  /-- 0xDC JGE (R143). -/
  | jge (adr : Addr)
  /-- 0xDD JLE (R144). -/
  | jle (adr : Addr)
  /-- 0xDE JG (R145). -/
  | jg (adr : Addr)
  /-- 0xF0 CLC (R220). -/
  | clc
  /-- 0xF1 SEC (R221). -/
  | sec
  /-- 0xF2 CLO (R222). -/
  | clo
  /-- 0xF3 SEO (R223). -/
  | seo
  /-- 0xFF HLT (R224). -/
  | hlt
  deriving DecidableEq, Repr

namespace Instr

/-- The name the source's opcode table gives the instruction (its Name column; a jump with two mnemonics shows both,
`30_encoding.md` R95). -/
def sourceName : Instr → String
  | .movAToB => "MOV A, B"
  | .movAToX => "MOV A, X"
  | .movAToY => "MOV A, Y"
  | .movAToSP => "MOV A, SP"
  | .movAToSR => "MOV A, SR"
  | .movBToA => "MOV B, A"
  | .movBToX => "MOV B, X"
  | .movBToY => "MOV B, Y"
  | .movBToSP => "MOV B, SP"
  | .movBToSR => "MOV B, SR"
  | .movXToA => "MOV X, A"
  | .movXToB => "MOV X, B"
  | .movYToA => "MOV Y, A"
  | .movYToB => "MOV Y, B"
  | .movSPToA => "MOV SP, A"
  | .movSRToA => "MOV SR, A"
  | .movAToImm _ => "MOV A, imm8"
  | .movBToImm _ => "MOV B, imm8"
  | .movXToImm _ => "MOV X, imm8"
  | .movYToImm _ => "MOV Y, imm8"
  | .movSPToImm _ => "MOV SP, imm8"
  | .movSRToImm _ => "MOV SR, imm8"
  | .movAtSPToImm _ => "MOV [SP], imm8"
  | .movAtXYToImm _ => "MOV [XY], imm8"
  | .movImmToA _ => "MOV imm8, A"
  | .movImmToB _ => "MOV imm8, B"
  | .movImmToX _ => "MOV imm8, X"
  | .movImmToY _ => "MOV imm8, Y"
  | .movImmToSP _ => "MOV imm8, SP"
  | .movImmToSR _ => "MOV imm8, SR"
  | .movImmToAtSP _ => "MOV imm8, [SP]"
  | .movImmToAtXY _ => "MOV imm8, [XY]"
  | .movAToMem _ => "MOV A, [mem]"
  | .movBToMem _ => "MOV B, [mem]"
  | .movXToMem _ => "MOV X, [mem]"
  | .movYToMem _ => "MOV Y, [mem]"
  | .movSPToMem _ => "MOV SP, [mem]"
  | .movSRToMem _ => "MOV SR, [mem]"
  | .movAtSPToMem _ => "MOV [SP], [mem]"
  | .movAtXYToMem _ => "MOV [XY], [mem]"
  | .movMemToA _ => "MOV [mem], A"
  | .movMemToB _ => "MOV [mem], B"
  | .movMemToX _ => "MOV [mem], X"
  | .movMemToY _ => "MOV [mem], Y"
  | .movMemToSP _ => "MOV [mem], SP"
  | .movMemToSR _ => "MOV [mem], SR"
  | .movMemToAtSP _ => "MOV [mem], [SP]"
  | .movMemToAtXY _ => "MOV [mem], [XY]"
  | .pushA => "PUSH A"
  | .pushB => "PUSH B"
  | .pushX => "PUSH X"
  | .pushY => "PUSH Y"
  | .pushImm _ => "PUSH imm8"
  | .pushSR => "PUSH SR"
  | .pushMem _ => "PUSH [mem]"
  | .pushAtXY => "PUSH [XY]"
  | .popA => "POP A"
  | .popB => "POP B"
  | .popX => "POP X"
  | .popY => "POP Y"
  | .popSR => "POP SR"
  | .popMem _ => "POP [mem]"
  | .popAtXY => "POP [xy]"
  | .addA => "ADD A"
  | .addB => "ADD B"
  | .addX => "ADD X"
  | .addY => "ADD Y"
  | .addSP => "ADD SP"
  | .addMem _ => "ADD [mem]"
  | .addAtSP => "ADD [SP]"
  | .addAtXY => "ADD [XY]"
  | .subA => "SUB A"
  | .subB => "SUB B"
  | .subX => "SUB X"
  | .subY => "SUB Y"
  | .subSP => "SUB SP"
  | .subMem _ => "SUB [mem]"
  | .subAtSP => "SUB [SP]"
  | .subAtXY => "SUB [XY]"
  | .adcA => "ADC A"
  | .adcB => "ADC B"
  | .adcX => "ADC X"
  | .adcY => "ADC Y"
  | .adcSP => "ADC SP"
  | .adcMem _ => "ADC [mem]"
  | .adcAtSP => "ADC [SP]"
  | .adcAtXY => "ADC [XY]"
  | .lshA => "LSH A"
  | .lshB => "LSH B"
  | .lshX => "LSH X"
  | .lshY => "LSH Y"
  | .lshSP => "LSH SP"
  | .lshMem _ => "LSH [mem]"
  | .lshAtSP => "LSH [SP]"
  | .lshAtXY => "LSH [XY]"
  | .rshA => "RSH A"
  | .rshB => "RSH B"
  | .rshX => "RSH X"
  | .rshY => "RSH Y"
  | .rshSP => "RSH SP"
  | .rshMem _ => "RSH [mem]"
  | .rshAtSP => "RSH [SP]"
  | .rshAtXY => "RSH [XY]"
  | .orA => "OR A"
  | .orB => "OR B"
  | .orX => "OR X"
  | .orY => "OR Y"
  | .orSP => "OR SP"
  | .orMem _ => "OR [mem]"
  | .orAtSP => "OR [SP]"
  | .orAtXY => "OR [XY]"
  | .andA => "AND A"
  | .andB => "AND B"
  | .andX => "AND X"
  | .andY => "AND Y"
  | .andSP => "AND SP"
  | .andMem _ => "AND [mem]"
  | .andAtSP => "AND [SP]"
  | .andAtXY => "AND [XY]"
  | .xorA => "XOR A"
  | .xorB => "XOR B"
  | .xorX => "XOR X"
  | .xorY => "XOR Y"
  | .xorSP => "XOR SP"
  | .xorMem _ => "XOR [mem]"
  | .xorAtSP => "XOR [SP]"
  | .xorAtXY => "XOR [XY]"
  | .cmp => "CMP"
  | .inc => "INC"
  | .dec => "DEC"
  | .call _ => "CALL"
  | .ret => "RET"
  | .jmp _ => "JMP"
  | .jo _ => "JO"
  | .jno _ => "JNO"
  | .js _ => "JS"
  | .jns _ => "JNS"
  | .je _ => "JE/JZ"
  | .jne _ => "JNE/JNZ"
  | .jb _ => "JB/JC"
  | .jnb _ => "JNB/JNC"
  | .jbe _ => "JBE"
  | .ja _ => "JA"
  | .jl _ => "JL"
  | .jge _ => "JGE"
  | .jle _ => "JLE"
  | .jg _ => "JG"
  | .clc => "CLC"
  | .sec => "SEC"
  | .clo => "CLO"
  | .seo => "SEO"
  | .hlt => "HLT"

end Instr

end Sys2Proof
end

