-- ==== Sys2Proof/Machine/State.lean ====
section
/-! DEFINITION. The state of the Rua-1, the reasons a step can stop, and the state a run starts in. -/

namespace Sys2Proof.Machine

/-- Memory as a list of (address, byte): addresses strictly rising, no entry equal to `Config.unlistedByte`, which is
what an address the list does not name reads as (`10_state.md` R37; the form is `Memory.wf` in `Machine/Ops.lean`). -/
abbrev Memory := List Host.Cell

/-- The whole state: what `10_state.md` R44 lists, the parameters of `00_scope.md` R6, and two fields of the model's
own for the extension bus. -/
structure State where
  /-- The accumulator (R21). -/
  a : Byte
  /-- The second ALU input (R22). -/
  b : Byte
  /-- The low byte of XY (R23, R24). -/
  x : Byte
  /-- The high byte of XY (R23, R24). -/
  y : Byte
  /-- The stack pointer (R25). -/
  sp : Byte
  /-- The status register: IE, three unnamed bits, OF, SF, ZF, CF from bit 7 down (R26). -/
  sr : Byte
  /-- The program counter (R35). -/
  pc : Addr
  /-- True after HLT has executed (R34). -/
  halted : Bool
  /-- The memory (R37). -/
  mem : Memory
  /-- `STACK_PAGE`, `RESET_PC`, `IO_REGION`: fixed for the machine, written by no instruction (log 3). -/
  params : Params
  /-- The model's own: how many reads of `IO_REGION` addresses have been answered (log 4). -/
  busReads : Nat
  /-- The model's own: the output events of writes to `IO_REGION` addresses, newest first (log 5). -/
  busWrites : List (Addr × Byte)
  deriving DecidableEq, Repr

/-- Why a step can fault. The hardware itself has no fault (`60_exceptions.md` R230). -/
inductive Fault where
  /-- Raised by the fetch of a blank opcode byte (`60_exceptions.md` R231; log 9). Safe: nothing is known of what the
  chip does, and the model proves nothing about it. -/
  | illegalOpcode (op : Byte)
  deriving DecidableEq, Repr

/-- Why a step can be refused. -/
inductive Refusal where
  /-- An instruction that has no meaning yet; raised by no arm of this model. Safe. -/
  | notModelled (mnemonic : String)
  /-- Raised by the opcodes 0x10 to 0x17, a move whose destination is an immediate: the spec's `Refused(op)`
  (`40_move.md` R111, `60_exceptions.md` R232; log 10). Safe: the run is outside the model. -/
  | immediateDestination (op : Byte)
  deriving DecidableEq, Repr

/-- What an instruction's meaning answers. -/
abbrev Result := Host.Outcome State Fault Refusal

namespace State

/-- The start of a run (`60_exceptions.md` R246, `10_state.md` R40): PC at `RESET_PC`, not halted, memory as
`INIT_MEM` (the spec's own decision D17; log 30); the registers, which it leaves at any value (R41), are arguments. -/
def start (p : Params) (a b x y sp sr : Byte) (initMem : Memory) : State where
  a := a
  b := b
  x := x
  y := y
  sp := sp
  sr := sr
  pc := p.resetPc
  halted := false
  mem := initMem
  params := p
  busReads := 0
  busWrites := []

/-- The machine after reset with the default parameters and nothing placed in memory. The register values are a
DESIGN CHOICE, unsafe (log 1): the spec leaves them at any value and forbids assuming zero (R41); these are the ones
its own traces start from (`95_test_vectors.md` section 3). -/
def reset : State := start Params.default 0xAA 0xBB 0xCC 0xDD 0xEE 0x9F []

end State

end Sys2Proof.Machine
end

