-- ==== Sys2Proof/Machine/Ops.lean ====
section
/-! DEFINITION. The named operations over memory, the registers, the stack and PC. The Rua-1 has no exception
(`60_exceptions.md` R230), so there is none to take and none to return from; the one shared stop is
`refuseImmediateDestination`. -/

namespace Sys2Proof.Machine

namespace Memory

/-- The byte of a cell. -/
def lookup : Memory → Nat → Byte
  | [], _ => Config.unlistedByte
  | (k, v) :: m, n => if k = n then v else lookup m n

/-- The list with an entry for `n`, in rising order of address. -/
def insert : Memory → Nat → Byte → Memory
  | [], n, v => [(n, v)]
  | (k, w) :: m, n, v => if n < k then (n, v) :: (k, w) :: m else (k, w) :: insert m n v

/-- The list without the entries for `n`. -/
def erase (m : Memory) (n : Nat) : Memory := m.filter fun c => c.1 != n

/-- The byte at an address. -/
def read (m : Memory) (a : Addr) : Byte := lookup m a.toNat

/-- The memory with one cell replaced; writing `Config.unlistedByte` removes the entry. -/
def write (m : Memory) (a : Addr) (v : Byte) : Memory :=
  if v = Config.unlistedByte then erase m a.toNat else insert (erase m a.toNat) a.toNat v

/-- Every address of the list is above `lo`, rising, inside the address space, and none holds the unlisted byte. -/
def wfAbove : Option Nat → Memory → Bool
  | _, [] => true
  | lo, (k, v) :: m => (match lo with | none => true | some l => l < k) && k < 65536 && v != Config.unlistedByte && wfAbove (some k) m

/-- The canonical form of a memory. -/
def wf (m : Memory) : Bool := wfAbove none m

end Memory

namespace State

/-- Is the address answered by an extension card and not by memory (`20_memory.md` R63)? -/
def isIO (s : State) (a : Addr) : Bool := s.params.ioRegion.contains a

/-- The value of `MemRead(a, 1)` (`20_memory.md` R50, R63): the cell's byte, or the environment's answer. -/
def memValue (s : State) (a : Addr) : Byte :=
  bif s.isIO a then Config.ioAnswer s.busReads a else s.mem.read a

/-- The state after `MemRead(a, 1)`: unchanged for a cell (`20_memory.md` R59); an answered read is counted. -/
def noteRead (s : State) (a : Addr) : State :=
  { s with busReads := s.busReads + (s.isIO a).toNat }

/-- `MemRead(a, 1)`: the value and the state after the read. -/
def memRead (s : State) (a : Addr) : Byte × State := (s.memValue a, s.noteRead a)

/-- `MemWrite(a, 1, v)` (`20_memory.md` R50, R63): one cell replaced, or an output event and no cell changed. -/
def memWrite (s : State) (a : Addr) (v : Byte) : State :=
  { s with
    mem := bif s.isIO a then s.mem else s.mem.write a v
    busWrites := bif s.isIO a then (a, v) :: s.busWrites else s.busWrites }

/-- The spec's `x[i]` (`00_scope.md` R8). -/
def getReg (s : State) : Reg → Byte
  | .A => s.a
  | .B => s.b
  | .X => s.x
  | .Y => s.y
  | .SP => s.sp
  | .SR => s.sr

/-- The spec's `x[i] <- v`; SR is written whole and unmasked (`10_state.md` R42). -/
def setReg (s : State) : Reg → Byte → State
  | .A, v => { s with a := v }
  | .B, v => { s with b := v }
  | .X, v => { s with x := v }
  | .Y, v => { s with y := v }
  | .SP, v => { s with sp := v }
  | .SR, v => { s with sr := v }

/-- `XY = {Y, X}` (`10_state.md` R24), the address of the operand `[XY]` (`20_memory.md` R72). -/
def xyAddr (s : State) : Addr := joinBytes s.y s.x

/-- `StackAddr() = {STACK_PAGE, SP}` (`20_memory.md` R56). -/
def stackAddr (s : State) : Addr := joinBytes s.params.stackPage s.sp

/-- `SP <- (SP - 1) mod 256`. -/
def decSP (s : State) : State := { s with sp := s.sp - 1 }

/-- `SP <- (SP + 1) mod 256`. -/
def incSP (s : State) : State := { s with sp := s.sp + 1 }

/-- `Push(v)` (`43_stack_procedures.md` R190). -/
def push (s : State) (v : Byte) : State := s.decSP.memWrite s.decSP.stackAddr v

/-- `Pop()` (`43_stack_procedures.md` R191): the value and the state after it. -/
def pop (s : State) : Byte × State :=
  let (v, s) := s.memRead s.stackAddr
  (v, s.incSP)

/-- The spec's `next` for an instruction of `len` bytes (`10_state.md` R36, wrapping modulo 65536). -/
def next (s : State) (len : Nat) : Addr := s.pc + BitVec.ofNat 16 len

/-- `pc <- t`. -/
def jump (s : State) (t : Addr) : State := { s with pc := t }

/-- `pc <- next`. -/
def advance (s : State) (len : Nat) : State := s.jump (s.next len)

/-- The whole of SR replaced. -/
def setSR (s : State) (v : Byte) : State := { s with sr := v }

end State

/-- `raise Refused(op)` (`60_exceptions.md` R232), for a move whose destination is an immediate (`40_move.md` R111). -/
def refuseImmediateDestination (op : Byte) : Result := .refused (.immediateDestination op)

end Sys2Proof.Machine
end

