-- ==== Sys2Proof/Machine/Flags.lean ====
section
/-! DEFINITION. The bits of SR (`10_state.md` R26) and the result-and-flag functions of the ALU (`42_alu.md` R150 to
R155). Each function is a definition of its own, so that a statement shows which of the spec's decisions D6 to D11 it
rests on. -/

namespace Sys2Proof.Machine

/-- CF = SR[0] (`10_state.md` R27). -/
def State.cf (s : State) : Bool := s.sr[0]

/-- ZF = SR[1] (`10_state.md` R28). -/
def State.zf (s : State) : Bool := s.sr[1]

/-- SF = SR[2] (`10_state.md` R29). -/
def State.sf (s : State) : Bool := s.sr[2]

/-- OF = SR[3] (`10_state.md` R30). -/
def State.of (s : State) : Bool := s.sr[3]

/-- IE = SR[7] (`10_state.md` R31); it has no effect on execution (`60_exceptions.md` R234). -/
def State.ie (s : State) : Bool := s.sr[7]

/-- What an ALU operation computes: the 8-bit result and CF, ZF, SF, OF. -/
structure AluOut where
  res : Byte
  c : Bool
  z : Bool
  s : Bool
  o : Bool
  deriving DecidableEq, Repr

/-- ZF and SF come from the result in every operation (`42_alu.md` R150). -/
def aluOut (res : Byte) (c o : Bool) : AluOut :=
  { res := res, c := c, z := res == 0, s := res[7], o := o }

/-- Does an exact signed result not fit in 8 bits? -/
def signedOverflow (exact : Int) : Bool := exact < -128 || 127 < exact

/-- `AddFlags(a, b, cin)` (R152). -/
def addFlags (a b : Byte) (cin : Bool) : AluOut :=
  let sum := a.toNat + b.toNat + cin.toNat
  aluOut (BitVec.ofNat 8 sum) (256 ≤ sum) (signedOverflow (a.toInt + b.toInt + cin.toNat))

/-- `SubFlags(a, b)` (R153): CF is the borrow. -/
def subFlags (a b : Byte) : AluOut :=
  aluOut (BitVec.ofInt 8 ((a.toNat : Int) - b.toNat)) (a.toNat < b.toNat) (signedOverflow (a.toInt - b.toInt))

/-- `LogicFlags(res)` (R154). -/
def logicFlags (res : Byte) : AluOut := aluOut res false false

/-- `LshFlags(a, b)` (R155): the count is the whole of `b`. -/
def lshFlags (a b : Byte) : AluOut :=
  let wide := a.toNat * 2 ^ b.toNat
  aluOut (BitVec.ofNat 8 wide) (wide / 256 % 2 == 1) false

/-- `RshFlags(a, b)` (R155): a logical shift, CF is 0. -/
def rshFlags (a b : Byte) : AluOut := aluOut (BitVec.ofNat 8 (a.toNat / 2 ^ b.toNat)) false false

/-- `SetFlags(c, z, s, o)` as a function on SR: `{SR[7:4], o, s, z, c}` (R150). -/
def withFlags (sr : Byte) (r : AluOut) : Byte :=
  ofBits sr[7] sr[6] sr[5] sr[4] r.o r.s r.z r.c

/-- `SetFlags(c, z, s, o)`. -/
def State.setFlags (s : State) (r : AluOut) : State := s.setSR (withFlags s.sr r)

/-- `{SR[7:1], v}`: SR with CF replaced. -/
def withCF (sr : Byte) (v : Bool) : Byte := ofBits sr[7] sr[6] sr[5] sr[4] sr[3] sr[2] sr[1] v

/-- `{SR[7:4], v, SR[2:0]}`: SR with OF replaced. -/
def withOF (sr : Byte) (v : Bool) : Byte := ofBits sr[7] sr[6] sr[5] sr[4] v sr[2] sr[1] sr[0]

/-- `{v, SR[6:0]}`: SR with IE replaced. -/
def withIE (sr : Byte) (v : Bool) : Byte := ofBits v sr[6] sr[5] sr[4] sr[3] sr[2] sr[1] sr[0]

end Sys2Proof.Machine
end

