-- ==== Sys2Proof/Machine/Operands.lean ====
section
/-! DEFINITION. Reading and writing what the 3-bit `reg` field names (`30_encoding.md` R84). -/

namespace Sys2Proof.Machine.State

/-- `RdOp(r)`: the operand's value and the state after reading it. -/
def readOp (s : State) : Operand → Byte × State
  | .reg r => (s.getReg r, s)
  | .atSP => s.memRead s.stackAddr
  | .atXY => s.memRead s.xyAddr

/-- `WrOp(r, v)`; a memory operand changes none of SP, X and Y. -/
def writeOp (s : State) : Operand → Byte → State
  | .reg r, v => s.setReg r v
  | .atSP, v => s.memWrite s.stackAddr v
  | .atXY, v => s.memWrite s.xyAddr v

end Sys2Proof.Machine.State
end

