-- ==== Sys2Proof/Machine/Alu.lean ====
section
/-! DEFINITION. The ALU operations, opcodes 0x40 to 0x7F and 0x80 to 0x82 (`42_alu.md`). The inputs are A and B, read
before anything is written; a memory destination is written and never read (R151). -/

namespace Sys2Proof.Machine

/-- What ADD computes (R156). -/
def State.addOut (s : State) : AluOut := addFlags s.a s.b false

/-- What SUB and CMP compute (R158, R172). -/
def State.subOut (s : State) : AluOut := subFlags s.a s.b

/-- What ADC computes (R160). -/
def State.adcOut (s : State) : AluOut := addFlags s.a s.b s.cf

/-- What LSH computes (R162). -/
def State.lshOut (s : State) : AluOut := lshFlags s.a s.b

/-- What RSH computes (R164). -/
def State.rshOut (s : State) : AluOut := rshFlags s.a s.b

/-- What OR computes (R166). -/
def State.orOut (s : State) : AluOut := logicFlags (s.a ||| s.b)

/-- What AND computes (R168). -/
def State.andOut (s : State) : AluOut := logicFlags (s.a &&& s.b)

/-- What XOR computes (R170). -/
def State.xorOut (s : State) : AluOut := logicFlags (s.a ^^^ s.b)

/-- The register form and the `[SP]` and `[XY]` forms: destination, flags, PC (R156). -/
def State.aluTo (s : State) (r : AluOut) (dst : Operand) : State := ((s.writeOp dst r.res).setFlags r).advance 1

/-- The `[mem]` form: destination, flags, PC (R157). -/
def State.aluToMem (s : State) (r : AluOut) (adr : Addr) : State := ((s.memWrite adr r.res).setFlags r).advance 3

/-- 0x40 ADD A (R156). -/
def execAddA (s : State) : Result := .next (s.aluTo s.addOut (.reg .A))

/-- 0x41 ADD B (R156). -/
def execAddB (s : State) : Result := .next (s.aluTo s.addOut (.reg .B))

/-- 0x42 ADD X (R156). -/
def execAddX (s : State) : Result := .next (s.aluTo s.addOut (.reg .X))

/-- 0x43 ADD Y (R156). -/
def execAddY (s : State) : Result := .next (s.aluTo s.addOut (.reg .Y))

/-- 0x44 ADD SP (R156). -/
def execAddSP (s : State) : Result := .next (s.aluTo s.addOut (.reg .SP))

/-- 0x45 ADD [mem] (R157). -/
def execAddMem (adr : Addr) (s : State) : Result := .next (s.aluToMem s.addOut adr)

/-- 0x46 ADD [SP] (R156). -/
def execAddAtSP (s : State) : Result := .next (s.aluTo s.addOut .atSP)

/-- 0x47 ADD [XY] (R156). -/
def execAddAtXY (s : State) : Result := .next (s.aluTo s.addOut .atXY)

/-- 0x48 SUB A (R158). -/
def execSubA (s : State) : Result := .next (s.aluTo s.subOut (.reg .A))

/-- 0x49 SUB B (R158). -/
def execSubB (s : State) : Result := .next (s.aluTo s.subOut (.reg .B))

/-- 0x4A SUB X (R158). -/
def execSubX (s : State) : Result := .next (s.aluTo s.subOut (.reg .X))

/-- 0x4B SUB Y (R158). -/
def execSubY (s : State) : Result := .next (s.aluTo s.subOut (.reg .Y))

/-- 0x4C SUB SP (R158). -/
def execSubSP (s : State) : Result := .next (s.aluTo s.subOut (.reg .SP))

/-- 0x4D SUB [mem] (R159). -/
def execSubMem (adr : Addr) (s : State) : Result := .next (s.aluToMem s.subOut adr)

/-- 0x4E SUB [SP] (R158). -/
def execSubAtSP (s : State) : Result := .next (s.aluTo s.subOut .atSP)

/-- 0x4F SUB [XY] (R158). -/
def execSubAtXY (s : State) : Result := .next (s.aluTo s.subOut .atXY)

/-- 0x50 ADC A (R160). -/
def execAdcA (s : State) : Result := .next (s.aluTo s.adcOut (.reg .A))

/-- 0x51 ADC B (R160). -/
def execAdcB (s : State) : Result := .next (s.aluTo s.adcOut (.reg .B))

/-- 0x52 ADC X (R160). -/
def execAdcX (s : State) : Result := .next (s.aluTo s.adcOut (.reg .X))

/-- 0x53 ADC Y (R160). -/
def execAdcY (s : State) : Result := .next (s.aluTo s.adcOut (.reg .Y))

/-- 0x54 ADC SP (R160). -/
def execAdcSP (s : State) : Result := .next (s.aluTo s.adcOut (.reg .SP))

/-- 0x55 ADC [mem] (R161). -/
def execAdcMem (adr : Addr) (s : State) : Result := .next (s.aluToMem s.adcOut adr)

/-- 0x56 ADC [SP] (R160). -/
def execAdcAtSP (s : State) : Result := .next (s.aluTo s.adcOut .atSP)

/-- 0x57 ADC [XY] (R160). -/
def execAdcAtXY (s : State) : Result := .next (s.aluTo s.adcOut .atXY)

/-- 0x58 LSH A (R162). -/
def execLshA (s : State) : Result := .next (s.aluTo s.lshOut (.reg .A))

/-- 0x59 LSH B (R162). -/
def execLshB (s : State) : Result := .next (s.aluTo s.lshOut (.reg .B))

/-- 0x5A LSH X (R162). -/
def execLshX (s : State) : Result := .next (s.aluTo s.lshOut (.reg .X))

/-- 0x5B LSH Y (R162). -/
def execLshY (s : State) : Result := .next (s.aluTo s.lshOut (.reg .Y))

/-- 0x5C LSH SP (R162). -/
def execLshSP (s : State) : Result := .next (s.aluTo s.lshOut (.reg .SP))

/-- 0x5D LSH [mem] (R163). -/
def execLshMem (adr : Addr) (s : State) : Result := .next (s.aluToMem s.lshOut adr)

/-- 0x5E LSH [SP] (R162). -/
def execLshAtSP (s : State) : Result := .next (s.aluTo s.lshOut .atSP)

/-- 0x5F LSH [XY] (R162). -/
def execLshAtXY (s : State) : Result := .next (s.aluTo s.lshOut .atXY)

/-- 0x60 RSH A (R164). -/
def execRshA (s : State) : Result := .next (s.aluTo s.rshOut (.reg .A))

/-- 0x61 RSH B (R164). -/
def execRshB (s : State) : Result := .next (s.aluTo s.rshOut (.reg .B))

/-- 0x62 RSH X (R164). -/
def execRshX (s : State) : Result := .next (s.aluTo s.rshOut (.reg .X))

/-- 0x63 RSH Y (R164). -/
def execRshY (s : State) : Result := .next (s.aluTo s.rshOut (.reg .Y))

/-- 0x64 RSH SP (R164). -/
def execRshSP (s : State) : Result := .next (s.aluTo s.rshOut (.reg .SP))

/-- 0x65 RSH [mem] (R165). -/
def execRshMem (adr : Addr) (s : State) : Result := .next (s.aluToMem s.rshOut adr)

/-- 0x66 RSH [SP] (R164). -/
def execRshAtSP (s : State) : Result := .next (s.aluTo s.rshOut .atSP)

/-- 0x67 RSH [XY] (R164). -/
def execRshAtXY (s : State) : Result := .next (s.aluTo s.rshOut .atXY)

/-- 0x68 OR A (R166). -/
def execOrA (s : State) : Result := .next (s.aluTo s.orOut (.reg .A))

/-- 0x69 OR B (R166). -/
def execOrB (s : State) : Result := .next (s.aluTo s.orOut (.reg .B))

/-- 0x6A OR X (R166). -/
def execOrX (s : State) : Result := .next (s.aluTo s.orOut (.reg .X))

/-- 0x6B OR Y (R166). -/
def execOrY (s : State) : Result := .next (s.aluTo s.orOut (.reg .Y))

/-- 0x6C OR SP (R166). -/
def execOrSP (s : State) : Result := .next (s.aluTo s.orOut (.reg .SP))

/-- 0x6D OR [mem] (R167). -/
def execOrMem (adr : Addr) (s : State) : Result := .next (s.aluToMem s.orOut adr)

/-- 0x6E OR [SP] (R166). -/
def execOrAtSP (s : State) : Result := .next (s.aluTo s.orOut .atSP)

/-- 0x6F OR [XY] (R166). -/
def execOrAtXY (s : State) : Result := .next (s.aluTo s.orOut .atXY)

/-- 0x70 AND A (R168). -/
def execAndA (s : State) : Result := .next (s.aluTo s.andOut (.reg .A))

/-- 0x71 AND B (R168). -/
def execAndB (s : State) : Result := .next (s.aluTo s.andOut (.reg .B))

/-- 0x72 AND X (R168). -/
def execAndX (s : State) : Result := .next (s.aluTo s.andOut (.reg .X))

/-- 0x73 AND Y (R168). -/
def execAndY (s : State) : Result := .next (s.aluTo s.andOut (.reg .Y))

/-- 0x74 AND SP (R168). -/
def execAndSP (s : State) : Result := .next (s.aluTo s.andOut (.reg .SP))

/-- 0x75 AND [mem] (R169). -/
def execAndMem (adr : Addr) (s : State) : Result := .next (s.aluToMem s.andOut adr)

/-- 0x76 AND [SP] (R168). -/
def execAndAtSP (s : State) : Result := .next (s.aluTo s.andOut .atSP)

/-- 0x77 AND [XY] (R168). -/
def execAndAtXY (s : State) : Result := .next (s.aluTo s.andOut .atXY)

/-- 0x78 XOR A (R170). -/
def execXorA (s : State) : Result := .next (s.aluTo s.xorOut (.reg .A))

/-- 0x79 XOR B (R170). -/
def execXorB (s : State) : Result := .next (s.aluTo s.xorOut (.reg .B))

/-- 0x7A XOR X (R170). -/
def execXorX (s : State) : Result := .next (s.aluTo s.xorOut (.reg .X))

/-- 0x7B XOR Y (R170). -/
def execXorY (s : State) : Result := .next (s.aluTo s.xorOut (.reg .Y))

/-- 0x7C XOR SP (R170). -/
def execXorSP (s : State) : Result := .next (s.aluTo s.xorOut (.reg .SP))

/-- 0x7D XOR [mem] (R171). -/
def execXorMem (adr : Addr) (s : State) : Result := .next (s.aluToMem s.xorOut adr)

/-- 0x7E XOR [SP] (R170). -/
def execXorAtSP (s : State) : Result := .next (s.aluTo s.xorOut .atSP)

/-- 0x7F XOR [XY] (R170). -/
def execXorAtXY (s : State) : Result := .next (s.aluTo s.xorOut .atXY)

/-- 0x80 CMP (R172) The result is discarded. -/
def execCmp (s : State) : Result := .next ((s.setFlags s.subOut).advance 1)

/-- 0x81 INC (R173). -/
def execInc (s : State) : Result := .next (s.aluTo (addFlags s.a 0x01 false) (.reg .A))

/-- 0x82 DEC (R174). -/
def execDec (s : State) : Result := .next (s.aluTo (subFlags s.a 0x01) (.reg .A))

end Sys2Proof.Machine
end

