-- ==== Sys2Proof/Machine/FlagHalt.lean ====
section
/-! DEFINITION. The flag instructions and HLT, opcodes 0xF0 to 0xF3 and 0xFF (`45_flag_and_halt.md`), and what the
spec says CLI and SEI do to SR. -/

namespace Sys2Proof.Machine

/-- 0xF0 CLC (R220). -/
def execClc (s : State) : Result := .next ((s.setSR (withCF s.sr false)).advance 1)

/-- 0xF1 SEC (R221). -/
def execSec (s : State) : Result := .next ((s.setSR (withCF s.sr true)).advance 1)

/-- 0xF2 CLO (R222). -/
def execClo (s : State) : Result := .next ((s.setSR (withOF s.sr false)).advance 1)

/-- 0xF3 SEO (R223). -/
def execSeo (s : State) : Result := .next ((s.setSR (withOF s.sr true)).advance 1)

/-- `halted <- true`. -/
def State.halt (s : State) : State := { s with halted := true }

/-- 0xFF HLT (R224) PC moves past it (log 8). -/
def execHlt (s : State) : Result := .next ((s.advance 1).halt)

/-- CLI's effect on SR, IE cleared (`44_interrupt_instructions.md` R214). The mnemonic has no opcode (R210): no
instruction calls this (log 17). R214 also ends with `pc <- next` but gives no length, so that PC has no value: that PC
stays as it was here is a DESIGN CHOICE (log 29). -/
def State.cliEffect (s : State) : State := s.setSR (withIE s.sr false)

/-- SEI's effect on SR, IE set (`44_interrupt_instructions.md` R215). As CLI, it has no opcode (log 17), and as for CLI
that PC stays as it was is a DESIGN CHOICE, the length being unknown (log 29). -/
def State.seiEffect (s : State) : State := s.setSR (withIE s.sr true)

end Sys2Proof.Machine
end

