-- ==== Sys2Proof/Machine/Jump.lean ====
section
/-! DEFINITION. The jumps, opcodes 0xD0 to 0xDE (`41_jump.md`). -/

namespace Sys2Proof.Machine

/-- What all jumps share (R130): `if cond(SR) then pc <- adr else pc <- next`, 3 bytes long. -/
def State.jumpIf (s : State) (cond : Bool) (adr : Addr) : State := s.jump (bif cond then adr else s.next 3)

/-- 0xD0 JMP (R131). -/
def execJmp (adr : Addr) (s : State) : Result := .next (s.jumpIf true adr)

/-- 0xD1 JO (R132). -/
def execJo (adr : Addr) (s : State) : Result := .next (s.jumpIf s.of adr)

/-- 0xD2 JNO (R133). -/
def execJno (adr : Addr) (s : State) : Result := .next (s.jumpIf (!s.of) adr)

/-- 0xD3 JS (R134). -/
def execJs (adr : Addr) (s : State) : Result := .next (s.jumpIf s.sf adr)

/-- 0xD4 JNS (R135). -/
def execJns (adr : Addr) (s : State) : Result := .next (s.jumpIf (!s.sf) adr)

/-- 0xD5 JE/JZ (R136). -/
def execJe (adr : Addr) (s : State) : Result := .next (s.jumpIf s.zf adr)

/-- 0xD6 JNE/JNZ (R137). -/
def execJne (adr : Addr) (s : State) : Result := .next (s.jumpIf (!s.zf) adr)

/-- 0xD7 JB/JC (R138). -/
def execJb (adr : Addr) (s : State) : Result := .next (s.jumpIf s.cf adr)

/-- 0xD8 JNB/JNC (R139). -/
def execJnb (adr : Addr) (s : State) : Result := .next (s.jumpIf (!s.cf) adr)

/-- 0xD9 JBE (R140). -/
def execJbe (adr : Addr) (s : State) : Result := .next (s.jumpIf (s.cf || s.zf) adr)

/-- 0xDA JA (R141). -/
def execJa (adr : Addr) (s : State) : Result := .next (s.jumpIf (!s.cf && !s.zf) adr)

/-- 0xDB JL (R142). -/
def execJl (adr : Addr) (s : State) : Result := .next (s.jumpIf (s.sf != s.of) adr)

/-- 0xDC JGE (R143). -/
def execJge (adr : Addr) (s : State) : Result := .next (s.jumpIf (s.sf == s.of) adr)

/-- 0xDD JLE (R144). -/
def execJle (adr : Addr) (s : State) : Result := .next (s.jumpIf (s.zf || s.sf != s.of) adr)

/-- 0xDE JG (R145). -/
def execJg (adr : Addr) (s : State) : Result := .next (s.jumpIf (!s.zf && s.sf == s.of) adr)

end Sys2Proof.Machine
end

