-- ==== Sys2Proof/Machine/Move.lean ====
section
/-! DEFINITION. The move operations, opcodes 0x00 to 0x2F (`40_move.md`). The first operand is the source, the second
the destination (R110; log 11). -/

namespace Sys2Proof.Machine

/-- R112: a register to a register. -/
def State.moveReg (s : State) (src dst : Reg) : State := (s.setReg dst (s.getReg src)).advance 1

/-- R113: an immediate to an operand. -/
def State.moveImm (s : State) (imm : Byte) (dst : Operand) : State := (s.writeOp dst imm).advance 2

/-- R114: an operand to the byte at an absolute address. -/
def State.moveToMem (s : State) (src : Operand) (adr : Addr) : State :=
  let (v, s) := s.readOp src
  (s.memWrite adr v).advance 3

/-- R115: the byte at an absolute address to an operand. -/
def State.moveFromMem (s : State) (adr : Addr) (dst : Operand) : State :=
  let (v, s) := s.memRead adr
  (s.writeOp dst v).advance 3

/-- 0x00 MOV A, B (R112). -/
def execMovAToB (s : State) : Result := .next (s.moveReg .A .B)

/-- 0x01 MOV A, X (R112). -/
def execMovAToX (s : State) : Result := .next (s.moveReg .A .X)

/-- 0x02 MOV A, Y (R112). -/
def execMovAToY (s : State) : Result := .next (s.moveReg .A .Y)

/-- 0x03 MOV A, SP (R112). -/
def execMovAToSP (s : State) : Result := .next (s.moveReg .A .SP)

/-- 0x04 MOV A, SR (R112). -/
def execMovAToSR (s : State) : Result := .next (s.moveReg .A .SR)

/-- 0x05 MOV B, A (R112). -/
def execMovBToA (s : State) : Result := .next (s.moveReg .B .A)

/-- 0x06 MOV B, X (R112). -/
def execMovBToX (s : State) : Result := .next (s.moveReg .B .X)

/-- 0x07 MOV B, Y (R112). -/
def execMovBToY (s : State) : Result := .next (s.moveReg .B .Y)

/-- 0x08 MOV B, SP (R112). -/
def execMovBToSP (s : State) : Result := .next (s.moveReg .B .SP)

/-- 0x09 MOV B, SR (R112). -/
def execMovBToSR (s : State) : Result := .next (s.moveReg .B .SR)

/-- 0x0A MOV X, A (R112). -/
def execMovXToA (s : State) : Result := .next (s.moveReg .X .A)

/-- 0x0B MOV X, B (R112). -/
def execMovXToB (s : State) : Result := .next (s.moveReg .X .B)

/-- 0x0C MOV Y, A (R112). -/
def execMovYToA (s : State) : Result := .next (s.moveReg .Y .A)

/-- 0x0D MOV Y, B (R112). -/
def execMovYToB (s : State) : Result := .next (s.moveReg .Y .B)

/-- 0x0E MOV SP, A (R112). -/
def execMovSPToA (s : State) : Result := .next (s.moveReg .SP .A)

/-- 0x0F MOV SR, A (R112). -/
def execMovSRToA (s : State) : Result := .next (s.moveReg .SR .A)

/-- 0x10 MOV A, imm8 (R111) The destination is an immediate: refused. -/
def execMovAToImm (_imm : Byte) (_s : State) : Result := refuseImmediateDestination 0x10

/-- 0x11 MOV B, imm8 (R111) The destination is an immediate: refused. -/
def execMovBToImm (_imm : Byte) (_s : State) : Result := refuseImmediateDestination 0x11

/-- 0x12 MOV X, imm8 (R111) The destination is an immediate: refused. -/
def execMovXToImm (_imm : Byte) (_s : State) : Result := refuseImmediateDestination 0x12

/-- 0x13 MOV Y, imm8 (R111) The destination is an immediate: refused. -/
def execMovYToImm (_imm : Byte) (_s : State) : Result := refuseImmediateDestination 0x13

/-- 0x14 MOV SP, imm8 (R111) The destination is an immediate: refused. -/
def execMovSPToImm (_imm : Byte) (_s : State) : Result := refuseImmediateDestination 0x14

/-- 0x15 MOV SR, imm8 (R111) The destination is an immediate: refused. -/
def execMovSRToImm (_imm : Byte) (_s : State) : Result := refuseImmediateDestination 0x15

/-- 0x16 MOV [SP], imm8 (R111) The destination is an immediate: refused. -/
def execMovAtSPToImm (_imm : Byte) (_s : State) : Result := refuseImmediateDestination 0x16

/-- 0x17 MOV [XY], imm8 (R111) The destination is an immediate: refused. -/
def execMovAtXYToImm (_imm : Byte) (_s : State) : Result := refuseImmediateDestination 0x17

/-- 0x18 MOV imm8, A (R113). -/
def execMovImmToA (imm : Byte) (s : State) : Result := .next (s.moveImm imm (.reg .A))

/-- 0x19 MOV imm8, B (R113). -/
def execMovImmToB (imm : Byte) (s : State) : Result := .next (s.moveImm imm (.reg .B))

/-- 0x1A MOV imm8, X (R113). -/
def execMovImmToX (imm : Byte) (s : State) : Result := .next (s.moveImm imm (.reg .X))

/-- 0x1B MOV imm8, Y (R113). -/
def execMovImmToY (imm : Byte) (s : State) : Result := .next (s.moveImm imm (.reg .Y))

/-- 0x1C MOV imm8, SP (R113). -/
def execMovImmToSP (imm : Byte) (s : State) : Result := .next (s.moveImm imm (.reg .SP))

/-- 0x1D MOV imm8, SR (R113). -/
def execMovImmToSR (imm : Byte) (s : State) : Result := .next (s.moveImm imm (.reg .SR))

/-- 0x1E MOV imm8, [SP] (R113). -/
def execMovImmToAtSP (imm : Byte) (s : State) : Result := .next (s.moveImm imm .atSP)

/-- 0x1F MOV imm8, [XY] (R113). -/
def execMovImmToAtXY (imm : Byte) (s : State) : Result := .next (s.moveImm imm .atXY)

/-- 0x20 MOV A, [mem] (R114). -/
def execMovAToMem (adr : Addr) (s : State) : Result := .next (s.moveToMem (.reg .A) adr)

/-- 0x21 MOV B, [mem] (R114). -/
def execMovBToMem (adr : Addr) (s : State) : Result := .next (s.moveToMem (.reg .B) adr)

/-- 0x22 MOV X, [mem] (R114). -/
def execMovXToMem (adr : Addr) (s : State) : Result := .next (s.moveToMem (.reg .X) adr)

/-- 0x23 MOV Y, [mem] (R114). -/
def execMovYToMem (adr : Addr) (s : State) : Result := .next (s.moveToMem (.reg .Y) adr)

/-- 0x24 MOV SP, [mem] (R114). -/
def execMovSPToMem (adr : Addr) (s : State) : Result := .next (s.moveToMem (.reg .SP) adr)

/-- 0x25 MOV SR, [mem] (R114). -/
def execMovSRToMem (adr : Addr) (s : State) : Result := .next (s.moveToMem (.reg .SR) adr)

/-- 0x26 MOV [SP], [mem] (R114). -/
def execMovAtSPToMem (adr : Addr) (s : State) : Result := .next (s.moveToMem .atSP adr)

/-- 0x27 MOV [XY], [mem] (R114). -/
def execMovAtXYToMem (adr : Addr) (s : State) : Result := .next (s.moveToMem .atXY adr)

/-- 0x28 MOV [mem], A (R115). -/
def execMovMemToA (adr : Addr) (s : State) : Result := .next (s.moveFromMem adr (.reg .A))

/-- 0x29 MOV [mem], B (R115). -/
def execMovMemToB (adr : Addr) (s : State) : Result := .next (s.moveFromMem adr (.reg .B))

/-- 0x2A MOV [mem], X (R115). -/
def execMovMemToX (adr : Addr) (s : State) : Result := .next (s.moveFromMem adr (.reg .X))

/-- 0x2B MOV [mem], Y (R115). -/
def execMovMemToY (adr : Addr) (s : State) : Result := .next (s.moveFromMem adr (.reg .Y))

/-- 0x2C MOV [mem], SP (R115). -/
def execMovMemToSP (adr : Addr) (s : State) : Result := .next (s.moveFromMem adr (.reg .SP))

/-- 0x2D MOV [mem], SR (R115). -/
def execMovMemToSR (adr : Addr) (s : State) : Result := .next (s.moveFromMem adr (.reg .SR))

/-- 0x2E MOV [mem], [SP] (R115). -/
def execMovMemToAtSP (adr : Addr) (s : State) : Result := .next (s.moveFromMem adr .atSP)

/-- 0x2F MOV [mem], [XY] (R115). -/
def execMovMemToAtXY (adr : Addr) (s : State) : Result := .next (s.moveFromMem adr .atXY)

end Sys2Proof.Machine
end

