-- ==== Sys2Proof/Machine/Stack.lean ====
section
/-! DEFINITION. Stack and procedures, opcodes 0x30 to 0x3F, 0xC0 and 0xC1 (`43_stack_procedures.md`). -/

namespace Sys2Proof.Machine

/-- R192: Push of a register. -/
def State.pushReg (s : State) (r : Reg) : State := (s.push (s.getReg r)).advance 1

/-- R196: a register from Pop. -/
def State.popReg (s : State) (r : Reg) : State :=
  let (v, s) := s.pop
  (s.setReg r v).advance 1

/-- 0x30 PUSH A (R192). -/
def execPushA (s : State) : Result := .next (s.pushReg .A)

/-- 0x31 PUSH B (R192). -/
def execPushB (s : State) : Result := .next (s.pushReg .B)

/-- 0x32 PUSH X (R192). -/
def execPushX (s : State) : Result := .next (s.pushReg .X)

/-- 0x33 PUSH Y (R192). -/
def execPushY (s : State) : Result := .next (s.pushReg .Y)

/-- 0x34 PUSH imm8 (R193). -/
def execPushImm (imm : Byte) (s : State) : Result := .next ((s.push imm).advance 2)

/-- 0x35 PUSH SR (R192). -/
def execPushSR (s : State) : Result := .next (s.pushReg .SR)

/-- 0x36 PUSH [mem] (R194) The source byte is read before SP moves. -/
def execPushMem (adr : Addr) (s : State) : Result :=
  let (v, s) := s.memRead adr
  .next ((s.push v).advance 3)

/-- 0x37 PUSH [XY] (R195). -/
def execPushAtXY (s : State) : Result :=
  let (v, s) := s.memRead s.xyAddr
  .next ((s.push v).advance 1)

/-- 0x38 POP A (R196). -/
def execPopA (s : State) : Result := .next (s.popReg .A)

/-- 0x39 POP B (R196). -/
def execPopB (s : State) : Result := .next (s.popReg .B)

/-- 0x3A POP X (R196). -/
def execPopX (s : State) : Result := .next (s.popReg .X)

/-- 0x3B POP Y (R196). -/
def execPopY (s : State) : Result := .next (s.popReg .Y)

/-- 0x3D POP SR (R196). -/
def execPopSR (s : State) : Result := .next (s.popReg .SR)

/-- 0x3E POP [mem] (R197). -/
def execPopMem (adr : Addr) (s : State) : Result :=
  let (v, s) := s.pop
  .next ((s.memWrite adr v).advance 3)

/-- 0x3F POP [xy] (R198). -/
def execPopAtXY (s : State) : Result :=
  let (v, s) := s.pop
  .next ((s.memWrite s.xyAddr v).advance 1)

/-- 0xC0 CALL (R199) The return address is `next`; its high byte is pushed first (log 13). -/
def execCall (adr : Addr) (s : State) : Result :=
  let ret := s.next 3
  .next (((s.push (highByte ret)).push (lowByte ret)).jump adr)

/-- 0xC1 RET (R200) The low byte is popped first. -/
def execRet (s : State) : Result :=
  let (lo, s) := s.pop
  let (hi, s) := s.pop
  .next (s.jump (joinBytes hi lo))

end Sys2Proof.Machine
end

