-- ==== Sys2Proof/Machine/Dispatch.lean ====
section
/-! DEFINITION. The dispatch: one arm per instruction, in the order of the opcode table. -/

namespace Sys2Proof.Machine

def exec (i : Instr) (s : State) : Host.Outcome State Fault Refusal :=
  match i with
  | .movAToB => Sys2Proof.Machine.execMovAToB s
  | .movAToX => Sys2Proof.Machine.execMovAToX s
  | .movAToY => Sys2Proof.Machine.execMovAToY s
  | .movAToSP => Sys2Proof.Machine.execMovAToSP s
  | .movAToSR => Sys2Proof.Machine.execMovAToSR s
  | .movBToA => Sys2Proof.Machine.execMovBToA s
  | .movBToX => Sys2Proof.Machine.execMovBToX s
  | .movBToY => Sys2Proof.Machine.execMovBToY s
  | .movBToSP => Sys2Proof.Machine.execMovBToSP s
  | .movBToSR => Sys2Proof.Machine.execMovBToSR s
  | .movXToA => Sys2Proof.Machine.execMovXToA s
  | .movXToB => Sys2Proof.Machine.execMovXToB s
  | .movYToA => Sys2Proof.Machine.execMovYToA s
  | .movYToB => Sys2Proof.Machine.execMovYToB s
  | .movSPToA => Sys2Proof.Machine.execMovSPToA s
  | .movSRToA => Sys2Proof.Machine.execMovSRToA s
  | .movAToImm imm => Sys2Proof.Machine.execMovAToImm imm s
  | .movBToImm imm => Sys2Proof.Machine.execMovBToImm imm s
  | .movXToImm imm => Sys2Proof.Machine.execMovXToImm imm s
  | .movYToImm imm => Sys2Proof.Machine.execMovYToImm imm s
  | .movSPToImm imm => Sys2Proof.Machine.execMovSPToImm imm s
  | .movSRToImm imm => Sys2Proof.Machine.execMovSRToImm imm s
  | .movAtSPToImm imm => Sys2Proof.Machine.execMovAtSPToImm imm s
  | .movAtXYToImm imm => Sys2Proof.Machine.execMovAtXYToImm imm s
  | .movImmToA imm => Sys2Proof.Machine.execMovImmToA imm s
  | .movImmToB imm => Sys2Proof.Machine.execMovImmToB imm s
  | .movImmToX imm => Sys2Proof.Machine.execMovImmToX imm s
  | .movImmToY imm => Sys2Proof.Machine.execMovImmToY imm s
  | .movImmToSP imm => Sys2Proof.Machine.execMovImmToSP imm s
  | .movImmToSR imm => Sys2Proof.Machine.execMovImmToSR imm s
  | .movImmToAtSP imm => Sys2Proof.Machine.execMovImmToAtSP imm s
  | .movImmToAtXY imm => Sys2Proof.Machine.execMovImmToAtXY imm s
  | .movAToMem adr => Sys2Proof.Machine.execMovAToMem adr s
  | .movBToMem adr => Sys2Proof.Machine.execMovBToMem adr s
  | .movXToMem adr => Sys2Proof.Machine.execMovXToMem adr s
  | .movYToMem adr => Sys2Proof.Machine.execMovYToMem adr s
  | .movSPToMem adr => Sys2Proof.Machine.execMovSPToMem adr s
  | .movSRToMem adr => Sys2Proof.Machine.execMovSRToMem adr s
  | .movAtSPToMem adr => Sys2Proof.Machine.execMovAtSPToMem adr s
  | .movAtXYToMem adr => Sys2Proof.Machine.execMovAtXYToMem adr s
  | .movMemToA adr => Sys2Proof.Machine.execMovMemToA adr s
  | .movMemToB adr => Sys2Proof.Machine.execMovMemToB adr s
  | .movMemToX adr => Sys2Proof.Machine.execMovMemToX adr s
  | .movMemToY adr => Sys2Proof.Machine.execMovMemToY adr s
  | .movMemToSP adr => Sys2Proof.Machine.execMovMemToSP adr s
  | .movMemToSR adr => Sys2Proof.Machine.execMovMemToSR adr s
  | .movMemToAtSP adr => Sys2Proof.Machine.execMovMemToAtSP adr s
  | .movMemToAtXY adr => Sys2Proof.Machine.execMovMemToAtXY adr s
  | .pushA => Sys2Proof.Machine.execPushA s
  | .pushB => Sys2Proof.Machine.execPushB s
  | .pushX => Sys2Proof.Machine.execPushX s
  | .pushY => Sys2Proof.Machine.execPushY s
  | .pushImm imm => Sys2Proof.Machine.execPushImm imm s
  | .pushSR => Sys2Proof.Machine.execPushSR s
  | .pushMem adr => Sys2Proof.Machine.execPushMem adr s
  | .pushAtXY => Sys2Proof.Machine.execPushAtXY s
  | .popA => Sys2Proof.Machine.execPopA s
  | .popB => Sys2Proof.Machine.execPopB s
  | .popX => Sys2Proof.Machine.execPopX s
  | .popY => Sys2Proof.Machine.execPopY s
  | .popSR => Sys2Proof.Machine.execPopSR s
  | .popMem adr => Sys2Proof.Machine.execPopMem adr s
  | .popAtXY => Sys2Proof.Machine.execPopAtXY s
  | .addA => Sys2Proof.Machine.execAddA s
  | .addB => Sys2Proof.Machine.execAddB s
  | .addX => Sys2Proof.Machine.execAddX s
  | .addY => Sys2Proof.Machine.execAddY s
  | .addSP => Sys2Proof.Machine.execAddSP s
  | .addMem adr => Sys2Proof.Machine.execAddMem adr s
  | .addAtSP => Sys2Proof.Machine.execAddAtSP s
  | .addAtXY => Sys2Proof.Machine.execAddAtXY s
  | .subA => Sys2Proof.Machine.execSubA s
  | .subB => Sys2Proof.Machine.execSubB s
  | .subX => Sys2Proof.Machine.execSubX s
  | .subY => Sys2Proof.Machine.execSubY s
  | .subSP => Sys2Proof.Machine.execSubSP s
  | .subMem adr => Sys2Proof.Machine.execSubMem adr s
  | .subAtSP => Sys2Proof.Machine.execSubAtSP s
  | .subAtXY => Sys2Proof.Machine.execSubAtXY s
  | .adcA => Sys2Proof.Machine.execAdcA s
  | .adcB => Sys2Proof.Machine.execAdcB s
  | .adcX => Sys2Proof.Machine.execAdcX s
  | .adcY => Sys2Proof.Machine.execAdcY s
  | .adcSP => Sys2Proof.Machine.execAdcSP s
  | .adcMem adr => Sys2Proof.Machine.execAdcMem adr s
  | .adcAtSP => Sys2Proof.Machine.execAdcAtSP s
  | .adcAtXY => Sys2Proof.Machine.execAdcAtXY s
  | .lshA => Sys2Proof.Machine.execLshA s
  | .lshB => Sys2Proof.Machine.execLshB s
  | .lshX => Sys2Proof.Machine.execLshX s
  | .lshY => Sys2Proof.Machine.execLshY s
  | .lshSP => Sys2Proof.Machine.execLshSP s
  | .lshMem adr => Sys2Proof.Machine.execLshMem adr s
  | .lshAtSP => Sys2Proof.Machine.execLshAtSP s
  | .lshAtXY => Sys2Proof.Machine.execLshAtXY s
  | .rshA => Sys2Proof.Machine.execRshA s
  | .rshB => Sys2Proof.Machine.execRshB s
  | .rshX => Sys2Proof.Machine.execRshX s
  | .rshY => Sys2Proof.Machine.execRshY s
  | .rshSP => Sys2Proof.Machine.execRshSP s
  | .rshMem adr => Sys2Proof.Machine.execRshMem adr s
  | .rshAtSP => Sys2Proof.Machine.execRshAtSP s
  | .rshAtXY => Sys2Proof.Machine.execRshAtXY s
  | .orA => Sys2Proof.Machine.execOrA s
  | .orB => Sys2Proof.Machine.execOrB s
  | .orX => Sys2Proof.Machine.execOrX s
  | .orY => Sys2Proof.Machine.execOrY s
  | .orSP => Sys2Proof.Machine.execOrSP s
  | .orMem adr => Sys2Proof.Machine.execOrMem adr s
  | .orAtSP => Sys2Proof.Machine.execOrAtSP s
  | .orAtXY => Sys2Proof.Machine.execOrAtXY s
  | .andA => Sys2Proof.Machine.execAndA s
  | .andB => Sys2Proof.Machine.execAndB s
  | .andX => Sys2Proof.Machine.execAndX s
  | .andY => Sys2Proof.Machine.execAndY s
  | .andSP => Sys2Proof.Machine.execAndSP s
  | .andMem adr => Sys2Proof.Machine.execAndMem adr s
  | .andAtSP => Sys2Proof.Machine.execAndAtSP s
  | .andAtXY => Sys2Proof.Machine.execAndAtXY s
  | .xorA => Sys2Proof.Machine.execXorA s
  | .xorB => Sys2Proof.Machine.execXorB s
  | .xorX => Sys2Proof.Machine.execXorX s
  | .xorY => Sys2Proof.Machine.execXorY s
  | .xorSP => Sys2Proof.Machine.execXorSP s
  | .xorMem adr => Sys2Proof.Machine.execXorMem adr s
  | .xorAtSP => Sys2Proof.Machine.execXorAtSP s
  | .xorAtXY => Sys2Proof.Machine.execXorAtXY s
  | .cmp => Sys2Proof.Machine.execCmp s
  | .inc => Sys2Proof.Machine.execInc s
  | .dec => Sys2Proof.Machine.execDec s
  | .call adr => Sys2Proof.Machine.execCall adr s
  | .ret => Sys2Proof.Machine.execRet s
  | .jmp adr => Sys2Proof.Machine.execJmp adr s
  | .jo adr => Sys2Proof.Machine.execJo adr s
  | .jno adr => Sys2Proof.Machine.execJno adr s
  | .js adr => Sys2Proof.Machine.execJs adr s
  | .jns adr => Sys2Proof.Machine.execJns adr s
  | .je adr => Sys2Proof.Machine.execJe adr s
  | .jne adr => Sys2Proof.Machine.execJne adr s
  | .jb adr => Sys2Proof.Machine.execJb adr s
  | .jnb adr => Sys2Proof.Machine.execJnb adr s
  | .jbe adr => Sys2Proof.Machine.execJbe adr s
  | .ja adr => Sys2Proof.Machine.execJa adr s
  | .jl adr => Sys2Proof.Machine.execJl adr s
  | .jge adr => Sys2Proof.Machine.execJge adr s
  | .jle adr => Sys2Proof.Machine.execJle adr s
  | .jg adr => Sys2Proof.Machine.execJg adr s
  | .clc => Sys2Proof.Machine.execClc s
  | .sec => Sys2Proof.Machine.execSec s
  | .clo => Sys2Proof.Machine.execClo s
  | .seo => Sys2Proof.Machine.execSeo s
  | .hlt => Sys2Proof.Machine.execHlt s

end Sys2Proof.Machine
end

