-- ==== Sys2Proof/WellFormed.lean ====
section
/-! DEFINITION. What makes a string of bytes one well-formed instruction.

A term of `Instr` needs no check: its constructor fixes the opcode byte, and its operand field has exactly the width
the encoding has room for, `imm8` eight bits and `adr` sixteen (`30_encoding.md` R86, R87), each of whose values is
legal. So "for every well-formed instruction" is "for every `Instr`" (log 26). What can be ill formed is a string of
bytes, and here it is checked against the spec's own ranges, written apart from the decoder's table. -/

namespace Sys2Proof

/-- The blank opcodes, by the ranges of `30_encoding.md` R91. -/
def blankOpcode (op : Byte) : Bool :=
  let n := op.toNat
  n == 0x3C || (0x83 ≤ n && n ≤ 0xBF) || (0xC2 ≤ n && n ≤ 0xCF) || (0xDF ≤ n && n ≤ 0xEF) || (0xF4 ≤ n && n ≤ 0xFE)

/-- The length of an instruction from its opcode byte, by the ranges of `30_encoding.md` R81; none where the byte is
blank. -/
def lengthOfOpcode (op : Byte) : Option Nat :=
  let n := op.toNat
  if blankOpcode op then none
  else if n ≤ 0x0F then some 1
  else if n ≤ 0x1F then some 2
  else if n ≤ 0x2F then some 3
  else if n = 0x34 then some 2
  else if n = 0x36 ∨ n = 0x3E then some 3
  else if n ≤ 0x3F then some 1
  else if [0x45, 0x4D, 0x55, 0x5D, 0x65, 0x6D, 0x75, 0x7D].contains n then some 3
  else if n = 0xC0 ∨ (0xD0 ≤ n ∧ n ≤ 0xDE) then some 3
  else some 1

/-- The bytes are exactly one instruction: there is an opcode byte, it is assigned (R91), and its operand bytes are
all there and nothing else is (R80, R81). -/
def wellFormedBytes : List Byte → Bool
  | [] => false
  | op :: rest => lengthOfOpcode op == some (rest.length + 1)

end Sys2Proof
end

