-- ==== Sys2Proof/Decode.lean ====
section
/-! DEFINITION. The opcode map as a table of 256 rows, the decoder over it (`30_encoding.md` R88), and the encoder. -/

namespace Sys2Proof

/-- A row of the source's opcode table: what the opcode byte says about the bytes after it (R81, R82). -/
inductive Row where
  /-- Opcode number and nothing else (R91). -/
  | blank
  /-- 1 byte: formats IMP, RM and R. -/
  | implied (i : Instr)
  /-- 2 bytes: formats RI and I, the second byte is `imm8` (R86). -/
  | immediate (build : Byte → Instr)
  /-- 3 bytes: formats RA and A, the second byte is `adr[7:0]` and the third `adr[15:8]` (R87). -/
  | absolute (build : Addr → Instr)

/-- The row's length in bytes; none for a blank row. -/
def Row.length : Row → Option Nat
  | .blank => none
  | .implied _ => some 1
  | .immediate _ => some 2
  | .absolute _ => some 3

/-- Opcode bytes 0x00 to 0x0F. -/
def rows0x : List Row :=
  [
   .implied .movAToB, .implied .movAToX, .implied .movAToY, .implied .movAToSP,
   .implied .movAToSR, .implied .movBToA, .implied .movBToX, .implied .movBToY,
   .implied .movBToSP, .implied .movBToSR, .implied .movXToA, .implied .movXToB,
   .implied .movYToA, .implied .movYToB, .implied .movSPToA, .implied .movSRToA]

/-- Opcode bytes 0x10 to 0x1F. -/
def rows1x : List Row :=
  [
   .immediate .movAToImm, .immediate .movBToImm, .immediate .movXToImm, .immediate .movYToImm,
   .immediate .movSPToImm, .immediate .movSRToImm, .immediate .movAtSPToImm, .immediate .movAtXYToImm,
   .immediate .movImmToA, .immediate .movImmToB, .immediate .movImmToX, .immediate .movImmToY,
   .immediate .movImmToSP, .immediate .movImmToSR, .immediate .movImmToAtSP, .immediate .movImmToAtXY]

/-- Opcode bytes 0x20 to 0x2F. -/
def rows2x : List Row :=
  [
   .absolute .movAToMem, .absolute .movBToMem, .absolute .movXToMem, .absolute .movYToMem,
   .absolute .movSPToMem, .absolute .movSRToMem, .absolute .movAtSPToMem, .absolute .movAtXYToMem,
   .absolute .movMemToA, .absolute .movMemToB, .absolute .movMemToX, .absolute .movMemToY,
   .absolute .movMemToSP, .absolute .movMemToSR, .absolute .movMemToAtSP, .absolute .movMemToAtXY]

/-- Opcode bytes 0x30 to 0x3F. -/
def rows3x : List Row :=
  [
   .implied .pushA, .implied .pushB, .implied .pushX, .implied .pushY,
   .immediate .pushImm, .implied .pushSR, .absolute .pushMem, .implied .pushAtXY,
   .implied .popA, .implied .popB, .implied .popX, .implied .popY,
   .blank, .implied .popSR, .absolute .popMem, .implied .popAtXY]

/-- Opcode bytes 0x40 to 0x4F. -/
def rows4x : List Row :=
  [
   .implied .addA, .implied .addB, .implied .addX, .implied .addY,
   .implied .addSP, .absolute .addMem, .implied .addAtSP, .implied .addAtXY,
   .implied .subA, .implied .subB, .implied .subX, .implied .subY,
   .implied .subSP, .absolute .subMem, .implied .subAtSP, .implied .subAtXY]

/-- Opcode bytes 0x50 to 0x5F. -/
def rows5x : List Row :=
  [
   .implied .adcA, .implied .adcB, .implied .adcX, .implied .adcY,
   .implied .adcSP, .absolute .adcMem, .implied .adcAtSP, .implied .adcAtXY,
   .implied .lshA, .implied .lshB, .implied .lshX, .implied .lshY,
   .implied .lshSP, .absolute .lshMem, .implied .lshAtSP, .implied .lshAtXY]

/-- Opcode bytes 0x60 to 0x6F. -/
def rows6x : List Row :=
  [
   .implied .rshA, .implied .rshB, .implied .rshX, .implied .rshY,
   .implied .rshSP, .absolute .rshMem, .implied .rshAtSP, .implied .rshAtXY,
   .implied .orA, .implied .orB, .implied .orX, .implied .orY,
   .implied .orSP, .absolute .orMem, .implied .orAtSP, .implied .orAtXY]

/-- Opcode bytes 0x70 to 0x7F. -/
def rows7x : List Row :=
  [
   .implied .andA, .implied .andB, .implied .andX, .implied .andY,
   .implied .andSP, .absolute .andMem, .implied .andAtSP, .implied .andAtXY,
   .implied .xorA, .implied .xorB, .implied .xorX, .implied .xorY,
   .implied .xorSP, .absolute .xorMem, .implied .xorAtSP, .implied .xorAtXY]

/-- Opcode bytes 0x80 to 0x8F. -/
def rows8x : List Row :=
  [
   .implied .cmp, .implied .inc, .implied .dec, .blank,
   .blank, .blank, .blank, .blank,
   .blank, .blank, .blank, .blank,
   .blank, .blank, .blank, .blank]

/-- Opcode bytes 0x90 to 0x9F. -/
def rows9x : List Row :=
  List.replicate 16 .blank

/-- Opcode bytes 0xA0 to 0xAF. -/
def rowsAx : List Row :=
  List.replicate 16 .blank

/-- Opcode bytes 0xB0 to 0xBF. -/
def rowsBx : List Row :=
  List.replicate 16 .blank

/-- Opcode bytes 0xC0 to 0xCF. -/
def rowsCx : List Row :=
  [
   .absolute .call, .implied .ret, .blank, .blank,
   .blank, .blank, .blank, .blank,
   .blank, .blank, .blank, .blank,
   .blank, .blank, .blank, .blank]

/-- Opcode bytes 0xD0 to 0xDF. -/
def rowsDx : List Row :=
  [
   .absolute .jmp, .absolute .jo, .absolute .jno, .absolute .js,
   .absolute .jns, .absolute .je, .absolute .jne, .absolute .jb,
   .absolute .jnb, .absolute .jbe, .absolute .ja, .absolute .jl,
   .absolute .jge, .absolute .jle, .absolute .jg, .blank]

/-- Opcode bytes 0xE0 to 0xEF. -/
def rowsEx : List Row :=
  List.replicate 16 .blank

/-- Opcode bytes 0xF0 to 0xFF. -/
def rowsFx : List Row :=
  [
   .implied .clc, .implied .sec, .implied .clo, .implied .seo,
   .blank, .blank, .blank, .blank,
   .blank, .blank, .blank, .blank,
   .blank, .blank, .blank, .implied .hlt]

/-- The source's opcode table: 256 rows, in the order of the opcode byte (R89, R91). -/
def opcodeTable : List Row :=
  rows0x ++ rows1x ++ rows2x ++ rows3x ++ rows4x ++ rows5x ++ rows6x ++ rows7x ++
  rows8x ++ rows9x ++ rowsAx ++ rowsBx ++ rowsCx ++ rowsDx ++ rowsEx ++ rowsFx

/-- The row of an opcode byte. -/
def rowOf (op : Byte) : Row := (opcodeTable[op.toNat]?).getD .blank

/-- Why bytes are not an instruction. -/
inductive DecodeError where
  /-- There is no opcode byte. -/
  | noBytes
  /-- The opcode byte is blank (R91). -/
  | blankOpcode (op : Byte)
  /-- The bytes end before the operand of the opcode does. -/
  | operandMissing (op : Byte)
  deriving DecidableEq, Repr

/-- R88: the instruction at the head of the bytes, with the bytes after it. Total: every string of bytes gives an
instruction or an error by name. -/
def decode : List Byte → Except DecodeError (Instr × List Byte)
  | [] => .error .noBytes
  | op :: rest =>
    match rowOf op, rest with
    | .blank, _ => .error (.blankOpcode op)
    | .implied i, rest => .ok (i, rest)
    | .immediate build, imm :: rest => .ok (build imm, rest)
    | .absolute build, lo :: hi :: rest => .ok (build (joinBytes hi lo), rest)
    | _, _ => .error (.operandMissing op)

/-- The opcode byte of an instruction (`opcode_table.json`, `match`). -/
def opcodeOf : Instr → Byte
  | .movAToB => 0x00
  | .movAToX => 0x01
  | .movAToY => 0x02
  | .movAToSP => 0x03
  | .movAToSR => 0x04
  | .movBToA => 0x05
  | .movBToX => 0x06
  | .movBToY => 0x07
  | .movBToSP => 0x08
  | .movBToSR => 0x09
  | .movXToA => 0x0A
  | .movXToB => 0x0B
  | .movYToA => 0x0C
  | .movYToB => 0x0D
  | .movSPToA => 0x0E
  | .movSRToA => 0x0F
  | .movAToImm _ => 0x10
  | .movBToImm _ => 0x11
  | .movXToImm _ => 0x12
  | .movYToImm _ => 0x13
  | .movSPToImm _ => 0x14
  | .movSRToImm _ => 0x15
  | .movAtSPToImm _ => 0x16
  | .movAtXYToImm _ => 0x17
  | .movImmToA _ => 0x18
  | .movImmToB _ => 0x19
  | .movImmToX _ => 0x1A
  | .movImmToY _ => 0x1B
  | .movImmToSP _ => 0x1C
  | .movImmToSR _ => 0x1D
  | .movImmToAtSP _ => 0x1E
  | .movImmToAtXY _ => 0x1F
  | .movAToMem _ => 0x20
  | .movBToMem _ => 0x21
  | .movXToMem _ => 0x22
  | .movYToMem _ => 0x23
  | .movSPToMem _ => 0x24
  | .movSRToMem _ => 0x25
  | .movAtSPToMem _ => 0x26
  | .movAtXYToMem _ => 0x27
  | .movMemToA _ => 0x28
  | .movMemToB _ => 0x29
  | .movMemToX _ => 0x2A
  | .movMemToY _ => 0x2B
  | .movMemToSP _ => 0x2C
  | .movMemToSR _ => 0x2D
  | .movMemToAtSP _ => 0x2E
  | .movMemToAtXY _ => 0x2F
  | .pushA => 0x30
  | .pushB => 0x31
  | .pushX => 0x32
  | .pushY => 0x33
  | .pushImm _ => 0x34
  | .pushSR => 0x35
  | .pushMem _ => 0x36
  | .pushAtXY => 0x37
  | .popA => 0x38
  | .popB => 0x39
  | .popX => 0x3A
  | .popY => 0x3B
  | .popSR => 0x3D
  | .popMem _ => 0x3E
  | .popAtXY => 0x3F
  | .addA => 0x40
  | .addB => 0x41
  | .addX => 0x42
  | .addY => 0x43
  | .addSP => 0x44
  | .addMem _ => 0x45
  | .addAtSP => 0x46
  | .addAtXY => 0x47
  | .subA => 0x48
  | .subB => 0x49
  | .subX => 0x4A
  | .subY => 0x4B
  | .subSP => 0x4C
  | .subMem _ => 0x4D
  | .subAtSP => 0x4E
  | .subAtXY => 0x4F
  | .adcA => 0x50
  | .adcB => 0x51
  | .adcX => 0x52
  | .adcY => 0x53
  | .adcSP => 0x54
  | .adcMem _ => 0x55
  | .adcAtSP => 0x56
  | .adcAtXY => 0x57
  | .lshA => 0x58
  | .lshB => 0x59
  | .lshX => 0x5A
  | .lshY => 0x5B
  | .lshSP => 0x5C
  | .lshMem _ => 0x5D
  | .lshAtSP => 0x5E
  | .lshAtXY => 0x5F
  | .rshA => 0x60
  | .rshB => 0x61
  | .rshX => 0x62
  | .rshY => 0x63
  | .rshSP => 0x64
  | .rshMem _ => 0x65
  | .rshAtSP => 0x66
  | .rshAtXY => 0x67
  | .orA => 0x68
  | .orB => 0x69
  | .orX => 0x6A
  | .orY => 0x6B
  | .orSP => 0x6C
  | .orMem _ => 0x6D
  | .orAtSP => 0x6E
  | .orAtXY => 0x6F
  | .andA => 0x70
  | .andB => 0x71
  | .andX => 0x72
  | .andY => 0x73
  | .andSP => 0x74
  | .andMem _ => 0x75
  | .andAtSP => 0x76
  | .andAtXY => 0x77
  | .xorA => 0x78
  | .xorB => 0x79
  | .xorX => 0x7A
  | .xorY => 0x7B
  | .xorSP => 0x7C
  | .xorMem _ => 0x7D
  | .xorAtSP => 0x7E
  | .xorAtXY => 0x7F
  | .cmp => 0x80
  | .inc => 0x81
  | .dec => 0x82
  | .call _ => 0xC0
  | .ret => 0xC1
  | .jmp _ => 0xD0
  | .jo _ => 0xD1
  | .jno _ => 0xD2
  | .js _ => 0xD3
  | .jns _ => 0xD4
  | .je _ => 0xD5
  | .jne _ => 0xD6
  | .jb _ => 0xD7
  | .jnb _ => 0xD8
  | .jbe _ => 0xD9
  | .ja _ => 0xDA
  | .jl _ => 0xDB
  | .jge _ => 0xDC
  | .jle _ => 0xDD
  | .jg _ => 0xDE
  | .clc => 0xF0
  | .sec => 0xF1
  | .clo => 0xF2
  | .seo => 0xF3
  | .hlt => 0xFF

/-- The operand bytes of an instruction, in the order they follow the opcode byte (R82, R86, R87). -/
def operandBytes : Instr → List Byte
  | .movAToB => []
  | .movAToX => []
  | .movAToY => []
  | .movAToSP => []
  | .movAToSR => []
  | .movBToA => []
  | .movBToX => []
  | .movBToY => []
  | .movBToSP => []
  | .movBToSR => []
  | .movXToA => []
  | .movXToB => []
  | .movYToA => []
  | .movYToB => []
  | .movSPToA => []
  | .movSRToA => []
  | .movAToImm imm => [imm]
  | .movBToImm imm => [imm]
  | .movXToImm imm => [imm]
  | .movYToImm imm => [imm]
  | .movSPToImm imm => [imm]
  | .movSRToImm imm => [imm]
  | .movAtSPToImm imm => [imm]
  | .movAtXYToImm imm => [imm]
  | .movImmToA imm => [imm]
  | .movImmToB imm => [imm]
  | .movImmToX imm => [imm]
  | .movImmToY imm => [imm]
  | .movImmToSP imm => [imm]
  | .movImmToSR imm => [imm]
  | .movImmToAtSP imm => [imm]
  | .movImmToAtXY imm => [imm]
  | .movAToMem adr => [lowByte adr, highByte adr]
  | .movBToMem adr => [lowByte adr, highByte adr]
  | .movXToMem adr => [lowByte adr, highByte adr]
  | .movYToMem adr => [lowByte adr, highByte adr]
  | .movSPToMem adr => [lowByte adr, highByte adr]
  | .movSRToMem adr => [lowByte adr, highByte adr]
  | .movAtSPToMem adr => [lowByte adr, highByte adr]
  | .movAtXYToMem adr => [lowByte adr, highByte adr]
  | .movMemToA adr => [lowByte adr, highByte adr]
  | .movMemToB adr => [lowByte adr, highByte adr]
  | .movMemToX adr => [lowByte adr, highByte adr]
  | .movMemToY adr => [lowByte adr, highByte adr]
  | .movMemToSP adr => [lowByte adr, highByte adr]
  | .movMemToSR adr => [lowByte adr, highByte adr]
  | .movMemToAtSP adr => [lowByte adr, highByte adr]
  | .movMemToAtXY adr => [lowByte adr, highByte adr]
  | .pushA => []
  | .pushB => []
  | .pushX => []
  | .pushY => []
  | .pushImm imm => [imm]
  | .pushSR => []
  | .pushMem adr => [lowByte adr, highByte adr]
  | .pushAtXY => []
  | .popA => []
  | .popB => []
  | .popX => []
  | .popY => []
  | .popSR => []
  | .popMem adr => [lowByte adr, highByte adr]
  | .popAtXY => []
  | .addA => []
  | .addB => []
  | .addX => []
  | .addY => []
  | .addSP => []
  | .addMem adr => [lowByte adr, highByte adr]
  | .addAtSP => []
  | .addAtXY => []
  | .subA => []
  | .subB => []
  | .subX => []
  | .subY => []
  | .subSP => []
  | .subMem adr => [lowByte adr, highByte adr]
  | .subAtSP => []
  | .subAtXY => []
  | .adcA => []
  | .adcB => []
  | .adcX => []
  | .adcY => []
  | .adcSP => []
  | .adcMem adr => [lowByte adr, highByte adr]
  | .adcAtSP => []
  | .adcAtXY => []
  | .lshA => []
  | .lshB => []
  | .lshX => []
  | .lshY => []
  | .lshSP => []
  | .lshMem adr => [lowByte adr, highByte adr]
  | .lshAtSP => []
  | .lshAtXY => []
  | .rshA => []
  | .rshB => []
  | .rshX => []
  | .rshY => []
  | .rshSP => []
  | .rshMem adr => [lowByte adr, highByte adr]
  | .rshAtSP => []
  | .rshAtXY => []
  | .orA => []
  | .orB => []
  | .orX => []
  | .orY => []
  | .orSP => []
  | .orMem adr => [lowByte adr, highByte adr]
  | .orAtSP => []
  | .orAtXY => []
  | .andA => []
  | .andB => []
  | .andX => []
  | .andY => []
  | .andSP => []
  | .andMem adr => [lowByte adr, highByte adr]
  | .andAtSP => []
  | .andAtXY => []
  | .xorA => []
  | .xorB => []
  | .xorX => []
  | .xorY => []
  | .xorSP => []
  | .xorMem adr => [lowByte adr, highByte adr]
  | .xorAtSP => []
  | .xorAtXY => []
  | .cmp => []
  | .inc => []
  | .dec => []
  | .call adr => [lowByte adr, highByte adr]
  | .ret => []
  | .jmp adr => [lowByte adr, highByte adr]
  | .jo adr => [lowByte adr, highByte adr]
  | .jno adr => [lowByte adr, highByte adr]
  | .js adr => [lowByte adr, highByte adr]
  | .jns adr => [lowByte adr, highByte adr]
  | .je adr => [lowByte adr, highByte adr]
  | .jne adr => [lowByte adr, highByte adr]
  | .jb adr => [lowByte adr, highByte adr]
  | .jnb adr => [lowByte adr, highByte adr]
  | .jbe adr => [lowByte adr, highByte adr]
  | .ja adr => [lowByte adr, highByte adr]
  | .jl adr => [lowByte adr, highByte adr]
  | .jge adr => [lowByte adr, highByte adr]
  | .jle adr => [lowByte adr, highByte adr]
  | .jg adr => [lowByte adr, highByte adr]
  | .clc => []
  | .sec => []
  | .clo => []
  | .seo => []
  | .hlt => []

/-- The bytes of an instruction, the opcode byte at the lowest address (R80). -/
def encode (i : Instr) : List Byte := opcodeOf i :: operandBytes i

/-- The `k` bytes of a number whose first byte is its least significant one. -/
def bytesOfNat : Nat → Nat → List Byte
  | 0, _ => []
  | k + 1, w => BitVec.ofNat 8 w :: bytesOfNat k (w / 256)

/-- The three bytes of the longest instruction (R80) that a table word of `nbits` bits stands for: the bits above
`nbits` are 0. -/
def tableWordBytes (nbits w : Nat) : List Byte := bytesOfNat 3 (w % 2 ^ nbits)

/-- The instruction the decoder reads from a table word. -/
def decodeTableWord (nbits w : Nat) : Option Instr :=
  match decode (tableWordBytes nbits w) with
  | .ok (i, _) => some i
  | .error _ => none

end Sys2Proof
end

