-- ==== Sys2Proof/Machine/Fetch.lean ====
section
/-! DEFINITION. Fetching an instruction, and placing one where the next fetch reads it. -/

namespace Sys2Proof.Machine.State

/-- R88: read the opcode byte at `pc`; where it is not blank read as many operand bytes as its row says, at ascending
wrapping addresses (`30_encoding.md` R80, R86, R87; `20_memory.md` R61). Answers the instruction and the state after the
reads, or the blank opcode byte. A read of an `IO_REGION` address is answered by the environment here too (log 6). -/
def fetch (s : State) : Except Byte (Instr × State) :=
  let (op, s1) := s.memRead s.pc
  match rowOf op with
  | .blank => .error op
  | .implied i => .ok (i, s1)
  | .immediate build =>
    let (imm, s2) := s1.memRead (s.pc + 1)
    .ok (build imm, s2)
  | .absolute build =>
    let (lo, s2) := s1.memRead (s.pc + 1)
    let (hi, s3) := s2.memRead (s.pc + 2)
    .ok (build (joinBytes hi lo), s3)

/-- The bytes `n` reads at ascending addresses from `a` on give, and the state after them. -/
def readBytes (s : State) (a : Addr) : Nat → List Byte × State
  | 0 => ([], s)
  | n + 1 =>
    let (v, s) := s.memRead a
    let (vs, s) := readBytes s (a + 1) n
    (v :: vs, s)

/-- The memory with bytes stored at ascending wrapping addresses from `a` on. -/
def storeBytes (m : Memory) (a : Addr) : List Byte → Memory
  | [] => m
  | v :: vs => storeBytes (m.write a v) (a + 1) vs

/-- The state made ready to fetch the bytes at `pc`: they are stored there, the processor is not halted, and no
extension card answers their addresses. Nothing else changes. -/
def placeBytes (s : State) (vs : List Byte) : State :=
  let places := (List.range vs.length).map fun k => s.pc + BitVec.ofNat 16 k
  { s with
    mem := storeBytes s.mem s.pc vs
    halted := false
    params := { s.params with ioRegion := s.params.ioRegion.filter fun a => !places.contains a } }

end Sys2Proof.Machine.State
end

