-- ==== Sys2Proof/Machine/Step.lean ====
section
/-! DEFINITION. One step of the machine, and the state whose next step runs a given instruction. -/

namespace Sys2Proof.Machine

/-- One step (`60_exceptions.md` R246): a halted processor does nothing and stays as it is (`10_state.md` R34,
`45_flag_and_halt.md` R224; log 7); otherwise fetch and decode at PC (`30_encoding.md` R88) and execute, or fault on a
blank opcode (`60_exceptions.md` R231). -/
def step (s : State) : Host.Outcome State Fault Refusal :=
  if s.halted then .next s
  else
    match s.fetch with
    | .error op => .fault (.illegalOpcode op)
    | .ok (i, s') => exec i s'

/-- The state with the instruction of a table word stored at PC, where the next step fetches it (log 21). -/
def State.withFetchWord (s : State) (nbits w : Nat) : State := s.placeBytes (tableWordBytes nbits w)

end Sys2Proof.Machine
end

