-- ==== Sys2Proof/Safety.lean ====
section
/-! DEFINITION. The terms the claims use: what a stored byte is, what a flag update is, what an instruction may change,
and the invariant of the machine. -/

namespace Sys2Proof.Machine

/-- From `s` to `t` exactly the byte `v` went to the address `adr` (`20_memory.md` R50, R63): to a cell, every other
address reading as before, or, where an extension card answers the address, to the bus, no cell changed. -/
def StoredByte (s t : State) (adr : Addr) (v : Byte) : Prop :=
  (s.isIO adr = false →
    t.busWrites = s.busWrites ∧ t.mem.read adr = v ∧ ∀ a, a ≠ adr → t.mem.read a = s.mem.read a) ∧
  (s.isIO adr = true → t.busWrites = (adr, v) :: s.busWrites ∧ t.mem = s.mem)

/-- The new SR holds the four flags and keeps bits 7 to 4 of the old one (`42_alu.md` R150). -/
def FlagsWritten (old new : Byte) (cf zf sf of : Bool) : Prop :=
  new[0] = cf ∧ new[1] = zf ∧ new[2] = sf ∧ new[3] = of ∧
    new[4] = old[4] ∧ new[5] = old[5] ∧ new[6] = old[6] ∧ new[7] = old[7]

/-- The instruction answers a next state; exactly the byte `v` goes to `adr`, and in everything but memory and bus
events the next state is `u`. -/
def CompletesStoring (i : Instr) (s u : State) (adr : Addr) (v : Byte) : Prop :=
  ∃ t, exec i s = .next t ∧ StoredByte s t adr v ∧ t = { u with mem := t.mem, busWrites := t.busWrites }

/-- The ALU instruction answers a next state: the result in the register, the four flags, PC past its one byte, all else
as before. -/
def CompletesAluToRegister (i : Instr) (s : State) (d : Reg) (r : AluOut) : Prop :=
  ∃ t, exec i s = .next t ∧ FlagsWritten s.sr t.sr r.c r.z r.s r.o ∧
    t = { s.setReg d r.res with sr := t.sr, pc := s.pc + 1 }

/-- The ALU instruction answers a next state: the result at the address, the four flags, PC past its `len` bytes, all
else as before. -/
def CompletesAluToMemory (i : Instr) (s : State) (adr : Addr) (len : Addr) (r : AluOut) : Prop :=
  ∃ t, exec i s = .next t ∧ FlagsWritten s.sr t.sr r.c r.z r.s r.o ∧ StoredByte s t adr r.res ∧
    t = { s with sr := t.sr, pc := s.pc + len, mem := t.mem, busWrites := t.busWrites }

/-- The eight destinations of a two-operand ALU operation (`42_alu.md` R151). -/
def CompletesAluGroup (toA toB toX toY toSP : Instr) (toMem : Addr → Instr) (toAtSP toAtXY : Instr) (s : State)
    (r : AluOut) : Prop :=
  CompletesAluToRegister toA s .A r ∧ CompletesAluToRegister toB s .B r ∧ CompletesAluToRegister toX s .X r ∧
  CompletesAluToRegister toY s .Y r ∧ CompletesAluToRegister toSP s .SP r ∧
  (∀ adr, CompletesAluToMemory (toMem adr) s adr 3 r) ∧
  CompletesAluToMemory toAtSP s s.stackAddr 1 r ∧ CompletesAluToMemory toAtXY s s.xyAddr 1 r

/-- The invariant of the machine: the memory is in its canonical form. -/
def MemoryCanonical (s : State) : Prop := s.mem.wf = true

/-- The step runs on: neither a fault nor a refusal. -/
def RunsOn (s : State) : Prop := ∃ t, step s = .next t

/-- The addresses an instruction stores to, at the state it executes in. -/
def storeAddrs (s : State) : Instr → List Addr
  | .movAToB => []
  | .movAToX => []
  | .movAToY => []
  | .movAToSP => []
  | .movAToSR => []
  | .movBToA => []
  | .movBToX => []
  | .movBToY => []
  | .movBToSP => []
  | .movBToSR => []
  | .movXToA => []
  | .movXToB => []
  | .movYToA => []
  | .movYToB => []
  | .movSPToA => []
  | .movSRToA => []
  | .movAToImm _ => []
  | .movBToImm _ => []
  | .movXToImm _ => []
  | .movYToImm _ => []
  | .movSPToImm _ => []
  | .movSRToImm _ => []
  | .movAtSPToImm _ => []
  | .movAtXYToImm _ => []
  | .movImmToA _ => []
  | .movImmToB _ => []
  | .movImmToX _ => []
  | .movImmToY _ => []
  | .movImmToSP _ => []
  | .movImmToSR _ => []
  | .movImmToAtSP _ => [s.stackAddr]
  | .movImmToAtXY _ => [s.xyAddr]
  | .movAToMem adr => [adr]
  | .movBToMem adr => [adr]
  | .movXToMem adr => [adr]
  | .movYToMem adr => [adr]
  | .movSPToMem adr => [adr]
  | .movSRToMem adr => [adr]
  | .movAtSPToMem adr => [adr]
  | .movAtXYToMem adr => [adr]
  | .movMemToA _ => []
  | .movMemToB _ => []
  | .movMemToX _ => []
  | .movMemToY _ => []
  | .movMemToSP _ => []
  | .movMemToSR _ => []
  | .movMemToAtSP _ => [s.stackAddr]
  | .movMemToAtXY _ => [s.xyAddr]
  | .pushA => [s.decSP.stackAddr]
  | .pushB => [s.decSP.stackAddr]
  | .pushX => [s.decSP.stackAddr]
  | .pushY => [s.decSP.stackAddr]
  | .pushImm _ => [s.decSP.stackAddr]
  | .pushSR => [s.decSP.stackAddr]
  | .pushMem _ => [s.decSP.stackAddr]
  | .pushAtXY => [s.decSP.stackAddr]
  | .popA => []
  | .popB => []
  | .popX => []
  | .popY => []
  | .popSR => []
  | .popMem adr => [adr]
  | .popAtXY => [s.pop.2.xyAddr]
  | .addA => []
  | .addB => []
  | .addX => []
  | .addY => []
  | .addSP => []
  | .addMem adr => [adr]
  | .addAtSP => [s.stackAddr]
  | .addAtXY => [s.xyAddr]
  | .subA => []
  | .subB => []
  | .subX => []
  | .subY => []
  | .subSP => []
  | .subMem adr => [adr]
  | .subAtSP => [s.stackAddr]
  | .subAtXY => [s.xyAddr]
  | .adcA => []
  | .adcB => []
  | .adcX => []
  | .adcY => []
  | .adcSP => []
  | .adcMem adr => [adr]
  | .adcAtSP => [s.stackAddr]
  | .adcAtXY => [s.xyAddr]
  | .lshA => []
  | .lshB => []
  | .lshX => []
  | .lshY => []
  | .lshSP => []
  | .lshMem adr => [adr]
  | .lshAtSP => [s.stackAddr]
  | .lshAtXY => [s.xyAddr]
  | .rshA => []
  | .rshB => []
  | .rshX => []
  | .rshY => []
  | .rshSP => []
  | .rshMem adr => [adr]
  | .rshAtSP => [s.stackAddr]
  | .rshAtXY => [s.xyAddr]
  | .orA => []
  | .orB => []
  | .orX => []
  | .orY => []
  | .orSP => []
  | .orMem adr => [adr]
  | .orAtSP => [s.stackAddr]
  | .orAtXY => [s.xyAddr]
  | .andA => []
  | .andB => []
  | .andX => []
  | .andY => []
  | .andSP => []
  | .andMem adr => [adr]
  | .andAtSP => [s.stackAddr]
  | .andAtXY => [s.xyAddr]
  | .xorA => []
  | .xorB => []
  | .xorX => []
  | .xorY => []
  | .xorSP => []
  | .xorMem adr => [adr]
  | .xorAtSP => [s.stackAddr]
  | .xorAtXY => [s.xyAddr]
  | .cmp => []
  | .inc => []
  | .dec => []
  | .call _ => [s.decSP.stackAddr, s.decSP.decSP.stackAddr]
  | .ret => []
  | .jmp _ => []
  | .jo _ => []
  | .jno _ => []
  | .js _ => []
  | .jns _ => []
  | .je _ => []
  | .jne _ => []
  | .jb _ => []
  | .jnb _ => []
  | .jbe _ => []
  | .ja _ => []
  | .jl _ => []
  | .jge _ => []
  | .jle _ => []
  | .jg _ => []
  | .clc => []
  | .sec => []
  | .clo => []
  | .seo => []
  | .hlt => []

/-- The register and register-addressed operands that the source's Name column writes out for an instruction
(`opcode_table.json`, `syntax`), in the order written; immediates and addresses are left out, and so is what an
instruction reads or writes without naming it (A and B of the ALU, SP of the stack, the flags). -/
def namedOperands : Instr → List Operand
  | .movAToB => [.reg .A, .reg .B]
  | .movAToX => [.reg .A, .reg .X]
  | .movAToY => [.reg .A, .reg .Y]
  | .movAToSP => [.reg .A, .reg .SP]
  | .movAToSR => [.reg .A, .reg .SR]
  | .movBToA => [.reg .B, .reg .A]
  | .movBToX => [.reg .B, .reg .X]
  | .movBToY => [.reg .B, .reg .Y]
  | .movBToSP => [.reg .B, .reg .SP]
  | .movBToSR => [.reg .B, .reg .SR]
  | .movXToA => [.reg .X, .reg .A]
  | .movXToB => [.reg .X, .reg .B]
  | .movYToA => [.reg .Y, .reg .A]
  | .movYToB => [.reg .Y, .reg .B]
  | .movSPToA => [.reg .SP, .reg .A]
  | .movSRToA => [.reg .SR, .reg .A]
  | .movAToImm _ => [.reg .A]
  | .movBToImm _ => [.reg .B]
  | .movXToImm _ => [.reg .X]
  | .movYToImm _ => [.reg .Y]
  | .movSPToImm _ => [.reg .SP]
  | .movSRToImm _ => [.reg .SR]
  | .movAtSPToImm _ => [.atSP]
  | .movAtXYToImm _ => [.atXY]
  | .movImmToA _ => [.reg .A]
  | .movImmToB _ => [.reg .B]
  | .movImmToX _ => [.reg .X]
  | .movImmToY _ => [.reg .Y]
  | .movImmToSP _ => [.reg .SP]
  | .movImmToSR _ => [.reg .SR]
  | .movImmToAtSP _ => [.atSP]
  | .movImmToAtXY _ => [.atXY]
  | .movAToMem _ => [.reg .A]
  | .movBToMem _ => [.reg .B]
  | .movXToMem _ => [.reg .X]
  | .movYToMem _ => [.reg .Y]
  | .movSPToMem _ => [.reg .SP]
  | .movSRToMem _ => [.reg .SR]
  | .movAtSPToMem _ => [.atSP]
  | .movAtXYToMem _ => [.atXY]
  | .movMemToA _ => [.reg .A]
  | .movMemToB _ => [.reg .B]
  | .movMemToX _ => [.reg .X]
  | .movMemToY _ => [.reg .Y]
  | .movMemToSP _ => [.reg .SP]
  | .movMemToSR _ => [.reg .SR]
  | .movMemToAtSP _ => [.atSP]
  | .movMemToAtXY _ => [.atXY]
  | .pushA => [.reg .A]
  | .pushB => [.reg .B]
  | .pushX => [.reg .X]
  | .pushY => [.reg .Y]
  | .pushImm _ => []
  | .pushSR => [.reg .SR]
  | .pushMem _ => []
  | .pushAtXY => [.atXY]
  | .popA => [.reg .A]
  | .popB => [.reg .B]
  | .popX => [.reg .X]
  | .popY => [.reg .Y]
  | .popSR => [.reg .SR]
  | .popMem _ => []
  | .popAtXY => [.atXY]
  | .addA => [.reg .A]
  | .addB => [.reg .B]
  | .addX => [.reg .X]
  | .addY => [.reg .Y]
  | .addSP => [.reg .SP]
  | .addMem _ => []
  | .addAtSP => [.atSP]
  | .addAtXY => [.atXY]
  | .subA => [.reg .A]
  | .subB => [.reg .B]
  | .subX => [.reg .X]
  | .subY => [.reg .Y]
  | .subSP => [.reg .SP]
  | .subMem _ => []
  | .subAtSP => [.atSP]
  | .subAtXY => [.atXY]
  | .adcA => [.reg .A]
  | .adcB => [.reg .B]
  | .adcX => [.reg .X]
  | .adcY => [.reg .Y]
  | .adcSP => [.reg .SP]
  | .adcMem _ => []
  | .adcAtSP => [.atSP]
  | .adcAtXY => [.atXY]
  | .lshA => [.reg .A]
  | .lshB => [.reg .B]
  | .lshX => [.reg .X]
  | .lshY => [.reg .Y]
  | .lshSP => [.reg .SP]
  | .lshMem _ => []
  | .lshAtSP => [.atSP]
  | .lshAtXY => [.atXY]
  | .rshA => [.reg .A]
  | .rshB => [.reg .B]
  | .rshX => [.reg .X]
  | .rshY => [.reg .Y]
  | .rshSP => [.reg .SP]
  | .rshMem _ => []
  | .rshAtSP => [.atSP]
  | .rshAtXY => [.atXY]
  | .orA => [.reg .A]
  | .orB => [.reg .B]
  | .orX => [.reg .X]
  | .orY => [.reg .Y]
  | .orSP => [.reg .SP]
  | .orMem _ => []
  | .orAtSP => [.atSP]
  | .orAtXY => [.atXY]
  | .andA => [.reg .A]
  | .andB => [.reg .B]
  | .andX => [.reg .X]
  | .andY => [.reg .Y]
  | .andSP => [.reg .SP]
  | .andMem _ => []
  | .andAtSP => [.atSP]
  | .andAtXY => [.atXY]
  | .xorA => [.reg .A]
  | .xorB => [.reg .B]
  | .xorX => [.reg .X]
  | .xorY => [.reg .Y]
  | .xorSP => [.reg .SP]
  | .xorMem _ => []
  | .xorAtSP => [.atSP]
  | .xorAtXY => [.atXY]
  | .cmp => []
  | .inc => []
  | .dec => []
  | .call _ => []
  | .ret => []
  | .jmp _ => []
  | .jo _ => []
  | .jno _ => []
  | .js _ => []
  | .jns _ => []
  | .je _ => []
  | .jne _ => []
  | .jb _ => []
  | .jnb _ => []
  | .jbe _ => []
  | .ja _ => []
  | .jl _ => []
  | .jge _ => []
  | .jle _ => []
  | .jg _ => []
  | .clc => []
  | .sec => []
  | .clo => []
  | .seo => []
  | .hlt => []

/-- The registers an instruction may write: the destination columns of `10_state.md` R39, SP for the stack, SR for the
flags. -/
def regsWritten : Instr → List Reg
  | .movAToB => [.B]
  | .movAToX => [.X]
  | .movAToY => [.Y]
  | .movAToSP => [.SP]
  | .movAToSR => [.SR]
  | .movBToA => [.A]
  | .movBToX => [.X]
  | .movBToY => [.Y]
  | .movBToSP => [.SP]
  | .movBToSR => [.SR]
  | .movXToA => [.A]
  | .movXToB => [.B]
  | .movYToA => [.A]
  | .movYToB => [.B]
  | .movSPToA => [.A]
  | .movSRToA => [.A]
  | .movAToImm _ => []
  | .movBToImm _ => []
  | .movXToImm _ => []
  | .movYToImm _ => []
  | .movSPToImm _ => []
  | .movSRToImm _ => []
  | .movAtSPToImm _ => []
  | .movAtXYToImm _ => []
  | .movImmToA _ => [.A]
  | .movImmToB _ => [.B]
  | .movImmToX _ => [.X]
  | .movImmToY _ => [.Y]
  | .movImmToSP _ => [.SP]
  | .movImmToSR _ => [.SR]
  | .movImmToAtSP _ => []
  | .movImmToAtXY _ => []
  | .movAToMem _ => []
  | .movBToMem _ => []
  | .movXToMem _ => []
  | .movYToMem _ => []
  | .movSPToMem _ => []
  | .movSRToMem _ => []
  | .movAtSPToMem _ => []
  | .movAtXYToMem _ => []
  | .movMemToA _ => [.A]
  | .movMemToB _ => [.B]
  | .movMemToX _ => [.X]
  | .movMemToY _ => [.Y]
  | .movMemToSP _ => [.SP]
  | .movMemToSR _ => [.SR]
  | .movMemToAtSP _ => []
  | .movMemToAtXY _ => []
  | .pushA => [.SP]
  | .pushB => [.SP]
  | .pushX => [.SP]
  | .pushY => [.SP]
  | .pushImm _ => [.SP]
  | .pushSR => [.SP]
  | .pushMem _ => [.SP]
  | .pushAtXY => [.SP]
  | .popA => [.A, .SP]
  | .popB => [.B, .SP]
  | .popX => [.X, .SP]
  | .popY => [.Y, .SP]
  | .popSR => [.SR, .SP]
  | .popMem _ => [.SP]
  | .popAtXY => [.SP]
  | .addA => [.A, .SR]
  | .addB => [.B, .SR]
  | .addX => [.X, .SR]
  | .addY => [.Y, .SR]
  | .addSP => [.SP, .SR]
  | .addMem _ => [.SR]
  | .addAtSP => [.SR]
  | .addAtXY => [.SR]
  | .subA => [.A, .SR]
  | .subB => [.B, .SR]
  | .subX => [.X, .SR]
  | .subY => [.Y, .SR]
  | .subSP => [.SP, .SR]
  | .subMem _ => [.SR]
  | .subAtSP => [.SR]
  | .subAtXY => [.SR]
  | .adcA => [.A, .SR]
  | .adcB => [.B, .SR]
  | .adcX => [.X, .SR]
  | .adcY => [.Y, .SR]
  | .adcSP => [.SP, .SR]
  | .adcMem _ => [.SR]
  | .adcAtSP => [.SR]
  | .adcAtXY => [.SR]
  | .lshA => [.A, .SR]
  | .lshB => [.B, .SR]
  | .lshX => [.X, .SR]
  | .lshY => [.Y, .SR]
  | .lshSP => [.SP, .SR]
  | .lshMem _ => [.SR]
  | .lshAtSP => [.SR]
  | .lshAtXY => [.SR]
  | .rshA => [.A, .SR]
  | .rshB => [.B, .SR]
  | .rshX => [.X, .SR]
  | .rshY => [.Y, .SR]
  | .rshSP => [.SP, .SR]
  | .rshMem _ => [.SR]
  | .rshAtSP => [.SR]
  | .rshAtXY => [.SR]
  | .orA => [.A, .SR]
  | .orB => [.B, .SR]
  | .orX => [.X, .SR]
  | .orY => [.Y, .SR]
  | .orSP => [.SP, .SR]
  | .orMem _ => [.SR]
  | .orAtSP => [.SR]
  | .orAtXY => [.SR]
  | .andA => [.A, .SR]
  | .andB => [.B, .SR]
  | .andX => [.X, .SR]
  | .andY => [.Y, .SR]
  | .andSP => [.SP, .SR]
  | .andMem _ => [.SR]
  | .andAtSP => [.SR]
  | .andAtXY => [.SR]
  | .xorA => [.A, .SR]
  | .xorB => [.B, .SR]
  | .xorX => [.X, .SR]
  | .xorY => [.Y, .SR]
  | .xorSP => [.SP, .SR]
  | .xorMem _ => [.SR]
  | .xorAtSP => [.SR]
  | .xorAtXY => [.SR]
  | .cmp => [.SR]
  | .inc => [.A, .SR]
  | .dec => [.A, .SR]
  | .call _ => [.SP]
  | .ret => [.SP]
  | .jmp _ => []
  | .jo _ => []
  | .jno _ => []
  | .js _ => []
  | .jns _ => []
  | .je _ => []
  | .jne _ => []
  | .jb _ => []
  | .jnb _ => []
  | .jbe _ => []
  | .ja _ => []
  | .jl _ => []
  | .jge _ => []
  | .jle _ => []
  | .jg _ => []
  | .clc => [.SR]
  | .sec => [.SR]
  | .clo => [.SR]
  | .seo => [.SR]
  | .hlt => []

/-- The bits of SR an instruction may write, as a mask: the table of `10_state.md` R43. -/
def srBitsWritten : Instr → Byte
  | .movAToB => 0x00
  | .movAToX => 0x00
  | .movAToY => 0x00
  | .movAToSP => 0x00
  | .movAToSR => 0xFF
  | .movBToA => 0x00
  | .movBToX => 0x00
  | .movBToY => 0x00
  | .movBToSP => 0x00
  | .movBToSR => 0xFF
  | .movXToA => 0x00
  | .movXToB => 0x00
  | .movYToA => 0x00
  | .movYToB => 0x00
  | .movSPToA => 0x00
  | .movSRToA => 0x00
  | .movAToImm _ => 0x00
  | .movBToImm _ => 0x00
  | .movXToImm _ => 0x00
  | .movYToImm _ => 0x00
  | .movSPToImm _ => 0x00
  | .movSRToImm _ => 0x00
  | .movAtSPToImm _ => 0x00
  | .movAtXYToImm _ => 0x00
  | .movImmToA _ => 0x00
  | .movImmToB _ => 0x00
  | .movImmToX _ => 0x00
  | .movImmToY _ => 0x00
  | .movImmToSP _ => 0x00
  | .movImmToSR _ => 0xFF
  | .movImmToAtSP _ => 0x00
  | .movImmToAtXY _ => 0x00
  | .movAToMem _ => 0x00
  | .movBToMem _ => 0x00
  | .movXToMem _ => 0x00
  | .movYToMem _ => 0x00
  | .movSPToMem _ => 0x00
  | .movSRToMem _ => 0x00
  | .movAtSPToMem _ => 0x00
  | .movAtXYToMem _ => 0x00
  | .movMemToA _ => 0x00
  | .movMemToB _ => 0x00
  | .movMemToX _ => 0x00
  | .movMemToY _ => 0x00
  | .movMemToSP _ => 0x00
  | .movMemToSR _ => 0xFF
  | .movMemToAtSP _ => 0x00
  | .movMemToAtXY _ => 0x00
  | .pushA => 0x00
  | .pushB => 0x00
  | .pushX => 0x00
  | .pushY => 0x00
  | .pushImm _ => 0x00
  | .pushSR => 0x00
  | .pushMem _ => 0x00
  | .pushAtXY => 0x00
  | .popA => 0x00
  | .popB => 0x00
  | .popX => 0x00
  | .popY => 0x00
  | .popSR => 0xFF
  | .popMem _ => 0x00
  | .popAtXY => 0x00
  | .addA => 0x0F
  | .addB => 0x0F
  | .addX => 0x0F
  | .addY => 0x0F
  | .addSP => 0x0F
  | .addMem _ => 0x0F
  | .addAtSP => 0x0F
  | .addAtXY => 0x0F
  | .subA => 0x0F
  | .subB => 0x0F
  | .subX => 0x0F
  | .subY => 0x0F
  | .subSP => 0x0F
  | .subMem _ => 0x0F
  | .subAtSP => 0x0F
  | .subAtXY => 0x0F
  | .adcA => 0x0F
  | .adcB => 0x0F
  | .adcX => 0x0F
  | .adcY => 0x0F
  | .adcSP => 0x0F
  | .adcMem _ => 0x0F
  | .adcAtSP => 0x0F
  | .adcAtXY => 0x0F
  | .lshA => 0x0F
  | .lshB => 0x0F
  | .lshX => 0x0F
  | .lshY => 0x0F
  | .lshSP => 0x0F
  | .lshMem _ => 0x0F
  | .lshAtSP => 0x0F
  | .lshAtXY => 0x0F
  | .rshA => 0x0F
  | .rshB => 0x0F
  | .rshX => 0x0F
  | .rshY => 0x0F
  | .rshSP => 0x0F
  | .rshMem _ => 0x0F
  | .rshAtSP => 0x0F
  | .rshAtXY => 0x0F
  | .orA => 0x0F
  | .orB => 0x0F
  | .orX => 0x0F
  | .orY => 0x0F
  | .orSP => 0x0F
  | .orMem _ => 0x0F
  | .orAtSP => 0x0F
  | .orAtXY => 0x0F
  | .andA => 0x0F
  | .andB => 0x0F
  | .andX => 0x0F
  | .andY => 0x0F
  | .andSP => 0x0F
  | .andMem _ => 0x0F
  | .andAtSP => 0x0F
  | .andAtXY => 0x0F
  | .xorA => 0x0F
  | .xorB => 0x0F
  | .xorX => 0x0F
  | .xorY => 0x0F
  | .xorSP => 0x0F
  | .xorMem _ => 0x0F
  | .xorAtSP => 0x0F
  | .xorAtXY => 0x0F
  | .cmp => 0x0F
  | .inc => 0x0F
  | .dec => 0x0F
  | .call _ => 0x00
  | .ret => 0x00
  | .jmp _ => 0x00
  | .jo _ => 0x00
  | .jno _ => 0x00
  | .js _ => 0x00
  | .jns _ => 0x00
  | .je _ => 0x00
  | .jne _ => 0x00
  | .jb _ => 0x00
  | .jnb _ => 0x00
  | .jbe _ => 0x00
  | .ja _ => 0x00
  | .jl _ => 0x00
  | .jge _ => 0x00
  | .jle _ => 0x00
  | .jg _ => 0x00
  | .clc => 0x01
  | .sec => 0x01
  | .clo => 0x08
  | .seo => 0x08
  | .hlt => 0x00

end Sys2Proof.Machine
end

