-- ==== Sys2Proof/Certificates/Slice0/Obligations.lean ====
section
/-! DEFINITION. The statements for the provers. Where a docstring names a decision D<n>, the clause rests on a point the
spec marks as its own choice (`92_eei_decisions.md`), not on a statement of the source. -/

open Sys2Proof Sys2Proof.Machine

/-- For every instruction, with every value of its operand, and any bytes after it: the decoder reads from the
instruction's own bytes followed by those bytes exactly that instruction and leaves exactly those bytes. The operand
byte order is the spec's own decision D27.
Basis: 30_encoding.md section 3, 30_encoding.md section 4. -/
def Obligations.DecodeOfEncode : Prop :=
  ∀ (i : Instr) (rest : List Byte), decode (encode i ++ rest) = .ok (i, rest)

/-- For all bytes: if the decoder reads an instruction from them and leaves a rest, the bytes are the encoding of that
instruction followed by that rest. So no two byte strings of one length stand for one instruction, and no bit is
dropped.
Basis: 30_encoding.md section 3, 30_encoding.md section 4. -/
def Obligations.EncodeOfDecode : Prop :=
  ∀ (bs : List Byte) (i : Instr) (rest : List Byte), decode bs = .ok (i, rest) → encode i ++ rest = bs

/-- For every opcode byte and any bytes after it: where the spec's ranges call the byte blank, decoding fails with that
byte by name; where they give it length n, decoding fails for a missing operand exactly when fewer than n bytes are
there, and otherwise gives an instruction whose encoding has n bytes and leaves the bytes after the first n. That a
blank opcode is rejected is the spec's decision D14 (log 9).
Basis: 30_encoding.md section 1 (length table), 30_encoding.md section 5 (blank opcodes), 30_encoding.md section 3. -/
def Obligations.LengthFollowsOpcode : Prop :=
  ∀ (op : Byte) (rest : List Byte),
    match lengthOfOpcode op with
    | none => decode (op :: rest) = .error (.blankOpcode op)
    | some n =>
      (rest.length + 1 < n → decode (op :: rest) = .error (.operandMissing op)) ∧
      (n ≤ rest.length + 1 → ∃ i, decode (op :: rest) = .ok (i, rest.drop (n - 1)) ∧ (encode i).length = n)

/-- Rows of the spec's decode vectors (section 2.1) and, for F2 and FF, of its opcode rows and flag vectors (sections 1
and 2.7), one per family: 00 is MOV A, B; 1A 34 is MOV 0x34, X; 20 22 00 is MOV A, [0x0022]; 2F CD AB is MOV [0xABCD],
[XY]; 34 AB is PUSH 0xAB; 3E 10 02 is POP [0x0210]; 44 is ADD SP; 7D FF FF is XOR [0xFFFF]; 80 is CMP; C0 09 00 is
CALL 0x0009; D6 04 00 is JNE 0x0004; F2 is CLO; FF is HLT; 3C is blank. That the low byte of an address comes first is
the spec's decision D27 (log 20), that a blank opcode is rejected its decision D14 (log 9).
Basis: 95_test_vectors.md section 1, 95_test_vectors.md section 2.1, 95_test_vectors.md section 2.7, 30_encoding.md section 4 (R89), 92_eei_decisions.md D14, D27. -/
def Obligations.SampleWordsDecode : Prop :=
  decode [0x00] = .ok (.movAToB, []) ∧ decode [0x1A, 0x34] = .ok (.movImmToX 0x34, []) ∧
  decode [0x20, 0x22, 0x00] = .ok (.movAToMem 0x0022, []) ∧ decode [0x2F, 0xCD, 0xAB] = .ok (.movMemToAtXY 0xABCD, []) ∧
  decode [0x34, 0xAB] = .ok (.pushImm 0xAB, []) ∧ decode [0x3E, 0x10, 0x02] = .ok (.popMem 0x0210, []) ∧
  decode [0x44] = .ok (.addSP, []) ∧ decode [0x7D, 0xFF, 0xFF] = .ok (.xorMem 0xFFFF, []) ∧
  decode [0x80] = .ok (.cmp, []) ∧ decode [0xC0, 0x09, 0x00] = .ok (.call 0x0009, []) ∧
  decode [0xD6, 0x04, 0x00] = .ok (.jne 0x0004, []) ∧ decode [0xF2] = .ok (.clo, []) ∧
  decode [0xFF] = .ok (.hlt, []) ∧ decode [0x3C] = .error (.blankOpcode 0x3C)

/-- For every state that is not halted: if the bytes read at PC, PC+1, PC+2 (addresses wrapping) decode to an instruction,
the step is that instruction executed in the state after the reads of its own bytes; where no extension card answers
the addresses of its bytes, in the state itself. Where all three bytes are cells, the bytes are the cells' contents.
Basis: 30_encoding.md section 3, 20_memory.md section 4. -/
def Obligations.StepRunsDecodedInstruction : Prop :=
  ∀ (s : State) (i : Instr) (rest : List Byte), s.halted = false →
    (decode (s.readBytes s.pc 3).1 = .ok (i, rest) →
      step s = exec i (s.readBytes s.pc (encode i).length).2 ∧
      ((∀ k, k < (encode i).length → s.isIO (s.pc + BitVec.ofNat 16 k) = false) → step s = exec i s)) ∧
    (s.isIO s.pc = false → s.isIO (s.pc + 1) = false → s.isIO (s.pc + 2) = false →
      decode [s.mem.read s.pc, s.mem.read (s.pc + 1), s.mem.read (s.pc + 2)] = .ok (i, rest) → step s = exec i s)

/-- For every state that is not halted, with the byte read at PC: blank, the step faults with that byte; 0x10 to 0x17, it
is refused with that byte; any other, it answers a next state, whatever the state holds. The fault and the refusal are
the spec's decisions D14 and D2 (logs 9, 10).
Basis: 60_exceptions.md section 1, 60_exceptions.md section 3, 30_encoding.md section 5. -/
def Obligations.StepOutcomeFollowsOpcodeByte : Prop :=
  ∀ s : State, s.halted = false →
    let op := s.memValue s.pc
    (blankOpcode op = true → step s = .fault (.illegalOpcode op)) ∧
    (0x10 ≤ op.toNat ∧ op.toNat ≤ 0x17 → step s = .refused (.immediateDestination op)) ∧
    (blankOpcode op = false → ¬(0x10 ≤ op.toNat ∧ op.toNat ≤ 0x17) → RunsOn s)

/-- In every halted state the step answers the same state. That it answers a next state rather than stops is the model's
choice (log 7).
Basis: 10_state.md section 4, 45_flag_and_halt.md (HLT). -/
def Obligations.HaltedStepStays : Prop :=
  ∀ s : State, s.halted = true → step s = .next s

/-- For every instruction and state: after it completes, the processor is halted exactly when it was before or the
instruction is HLT.
Basis: 10_state.md section 4, 45_flag_and_halt.md (HLT). -/
def Obligations.OnlyHltHalts : Prop :=
  ∀ (i : Instr) (s t : State), exec i s = .next t → (t.halted = true ↔ s.halted = true ∨ i = .hlt)

/-- For every state and every table word that the decoder reads as an instruction: after the word is placed at PC, the
very next step is that instruction executed in that state, at PC values where the bytes wrap around the address space
too. The placing is the model's own operation (log 21).
Basis: 30_encoding.md section 3, 20_memory.md section 4, 20_memory.md section 9. -/
def Obligations.PlacedWordIsRunNext : Prop :=
  ∀ (s : State) (nbits w : Nat) (i : Instr), decodeTableWord nbits w = some i →
    step (s.withFetchWord nbits w) = exec i (s.withFetchWord nbits w)

/-- For all parameters, register values and initial memory: a run starts at RESET_PC, not halted, with that memory, those
registers, no bus event and no answered bus read. That PC is RESET_PC and the processor not halted is the spec's own
decision D17 (log 30). State.reset is the start with the default parameters of R6 (entry 0x0000, stack page 0x00, no
card) and nothing listed in memory. The model's own choices here, and no rule of the spec: that State.reset lists
nothing in memory, for R6 gives INIT_MEM no default (logs 2, 21); that the parameters stand in the state and
State.reset has their defaults (log 3); the count of answered reads and the list of bus events, and that they start at
0 and empty (logs 4, 5). The register values of State.reset are the model's choice too (log 1) and not stated.
Basis: 10_state.md section 8 (R40, R41), 70_reset_and_hazards.md section 1, 60_exceptions.md section 8, 00_scope.md section 4 (R6), 92_eei_decisions.md D17. -/
def Obligations.StartOfRunValues : Prop :=
  (∀ (p : Params) (a b x y sp sr : Byte) (m : Memory),
    State.start p a b x y sp sr m =
      { a := a, b := b, x := x, y := y, sp := sp, sr := sr, pc := p.resetPc, halted := false, mem := m, params := p,
        busReads := 0, busWrites := [] }) ∧
  (∃ a b x y sp sr, State.reset = State.start { stackPage := 0x00, resetPc := 0x0000, ioRegion := [] } a b x y sp sr [])

/-- For every start of a run whose initial memory is in canonical form the invariant holds, and it holds at State.reset.
The canonical form is the model's own (log 2).
Basis: 10_state.md section 5, 70_reset_and_hazards.md section 1. -/
def Obligations.CanonicalAtStart : Prop :=
  (∀ (p : Params) (a b x y sp sr : Byte) (m : Memory), m.wf = true → MemoryCanonical (State.start p a b x y sp sr m)) ∧
  MemoryCanonical State.reset

/-- For every state whose memory is in canonical form (addresses strictly rising and inside the address space, no entry
equal to what an unlisted address reads as): if the step answers a next state, its memory is in canonical form. The
form is the model's own (log 2).
Basis: 10_state.md section 5, 20_memory.md section 1. -/
def Obligations.StepKeepsMemoryCanonical : Prop :=
  ∀ s t : State, MemoryCanonical s → step s = .next t → MemoryCanonical t

/-- For all memories in canonical form: if every address reads the same byte in both, they are the same list. So a
canonical memory is exactly an assignment of a byte to each of the 65536 addresses. The form is the model's own (log
2).
Basis: 10_state.md section 5. -/
def Obligations.CanonicalMemoriesAreEqual : Prop :=
  ∀ m m' : Memory, m.wf = true → m'.wf = true → (∀ a : Addr, m.read a = m'.read a) → m = m'

/-- For every function from addresses to bytes there is a memory in canonical form that reads as it: quantifying over
canonical memories is quantifying over INIT_MEM. The form is the model's own (log 2).
Basis: 10_state.md section 5, 70_reset_and_hazards.md section 1. -/
def Obligations.EveryInitialMemoryIsCanonical : Prop :=
  ∀ f : Addr → Byte, ∃ m : Memory, m.wf = true ∧ ∀ a : Addr, m.read a = f a

/-- For every state: if the step answers a next state, the stack page, the reset PC and the IO region are as before, the
bus events are the old ones with new ones before them, and the count of answered reads has not fallen. That these
stand in the state is the model's choice (logs 3, 4, 5).
Basis: 00_scope.md section 4, 20_memory.md section 7. -/
def Obligations.StepKeepsParameters : Prop :=
  ∀ s t : State, step s = .next t →
    t.params = s.params ∧ (∃ new, t.busWrites = new ++ s.busWrites) ∧ s.busReads ≤ t.busReads

/-- For every instruction and state: after it completes, every address that is not among those it stores to (computed from
the state it executes in), or that an extension card answers, reads as before. That a card's address changes no cell
is the spec's decision D26.
Basis: 20_memory.md section 1, 20_memory.md section 5, 20_memory.md section 7. -/
def Obligations.MemoryChangesOnlyWhereStored : Prop :=
  ∀ (i : Instr) (s t : State) (adr : Addr), exec i s = .next t → adr ∉ storeAddrs s i ∨ s.isIO adr = true →
    t.mem.read adr = s.mem.read adr

/-- For every instruction and state: after it completes, every one of A, B, X, Y, SP, SR that the access matrix does not
make its destination, its stack pointer or its flags is as before.
Basis: 10_state.md section 7, 10_state.md section 2. -/
def Obligations.RegistersChangeOnlyAsListed : Prop :=
  ∀ (i : Instr) (s t : State) (r : Reg), exec i s = .next t → r ∉ regsWritten i → t.getReg r = s.getReg r

/-- For every instruction and state: after it completes, every bit of SR outside the instruction's mask is as before: CF,
ZF, SF, OF for the ALU instructions, one flag for CLC, SEC, CLO, SEO, all eight for the five writes of the whole of
SR, none for any other. That MOV, PUSH, POP, jumps, CALL, RET and HLT leave SR alone is the spec's decision D12 (log
16).
Basis: 10_state.md section 2 (flag table), 42_alu.md section 1. -/
def Obligations.SRChangesOnlyAsListed : Prop :=
  ∀ (i : Instr) (s t : State), exec i s = .next t → t.sr &&& ~~~(srBitsWritten i) = s.sr &&& ~~~(srBitsWritten i)

/-- For every state, every SR value with the same four flags, and every instruction but the three that read SR whole (MOV
SR, A; MOV SR, [mem]; PUSH SR): if it completes, it completes with the other SR value too, and the two results differ
in SR alone, with the same four flags. That IE has no effect is the spec's decision D16 (log 18), that bits 6 to 4 are
storage its decision D13 (log 16).
Basis: 60_exceptions.md section 2, 41_jump.md section 3, 10_state.md section 2. -/
def Obligations.HighSRBitsAreInert : Prop :=
  ∀ (i : Instr) (s t : State) (v : Byte), v.extractLsb' 0 4 = s.sr.extractLsb' 0 4 →
    i ≠ .movSRToA → (∀ adr, i ≠ .movSRToMem adr) → i ≠ .pushSR → exec i s = .next t →
    ∃ w : Byte, exec i { s with sr := v } = .next { t with sr := w } ∧ w.extractLsb' 0 4 = t.sr.extractLsb' 0 4

/-- For every state: the stack address is 256 times the stack page plus SP, and the [XY] address is 256 times Y plus X.
That the stack page supplies the high byte is the spec's decision D3 (log 12).
Basis: 10_state.md section 1, 20_memory.md section 3. -/
def Obligations.AddressesFromRegisters : Prop :=
  ∀ s : State, s.stackAddr.toNat = s.params.stackPage.toNat * 256 + s.sp.toNat ∧
    s.xyAddr.toNat = s.y.toNat * 256 + s.x.toNat

/-- For every state each of the sixteen register moves completes: the destination holds the source's value, PC is one on,
and every other register, flag, memory cell and field is as before; where the destination is SR all eight bits are
replaced. Source first is the spec's decision D1 (log 11).
Basis: 40_move.md section 2, 30_encoding.md section 2, 92_eei_decisions.md D1. -/
def Obligations.MovRegisterToRegister : Prop :=
  ∀ s : State,
    exec .movAToB s = .next { s with b := s.a, pc := s.pc + 1 } ∧
    exec .movAToX s = .next { s with x := s.a, pc := s.pc + 1 } ∧
    exec .movAToY s = .next { s with y := s.a, pc := s.pc + 1 } ∧
    exec .movAToSP s = .next { s with sp := s.a, pc := s.pc + 1 } ∧
    exec .movAToSR s = .next { s with sr := s.a, pc := s.pc + 1 } ∧
    exec .movBToA s = .next { s with a := s.b, pc := s.pc + 1 } ∧
    exec .movBToX s = .next { s with x := s.b, pc := s.pc + 1 } ∧
    exec .movBToY s = .next { s with y := s.b, pc := s.pc + 1 } ∧
    exec .movBToSP s = .next { s with sp := s.b, pc := s.pc + 1 } ∧
    exec .movBToSR s = .next { s with sr := s.b, pc := s.pc + 1 } ∧
    exec .movXToA s = .next { s with a := s.x, pc := s.pc + 1 } ∧
    exec .movXToB s = .next { s with b := s.x, pc := s.pc + 1 } ∧
    exec .movYToA s = .next { s with a := s.y, pc := s.pc + 1 } ∧
    exec .movYToB s = .next { s with b := s.y, pc := s.pc + 1 } ∧
    exec .movSPToA s = .next { s with a := s.sp, pc := s.pc + 1 } ∧
    exec .movSRToA s = .next { s with a := s.sr, pc := s.pc + 1 }

/-- For every state and operand byte each of the eight moves whose destination is an immediate is refused with its own
opcode byte. The refusal is the spec's decision D2 (log 10).
Basis: 40_move.md section 3, 60_exceptions.md section 1, 92_eei_decisions.md D2. -/
def Obligations.MovToImmediateIsRefused : Prop :=
  ∀ (s : State) (imm : Byte),
    exec (.movAToImm imm) s = .refused (.immediateDestination 0x10) ∧
    exec (.movBToImm imm) s = .refused (.immediateDestination 0x11) ∧
    exec (.movXToImm imm) s = .refused (.immediateDestination 0x12) ∧
    exec (.movYToImm imm) s = .refused (.immediateDestination 0x13) ∧
    exec (.movSPToImm imm) s = .refused (.immediateDestination 0x14) ∧
    exec (.movSRToImm imm) s = .refused (.immediateDestination 0x15) ∧
    exec (.movAtSPToImm imm) s = .refused (.immediateDestination 0x16) ∧
    exec (.movAtXYToImm imm) s = .refused (.immediateDestination 0x17)

/-- For every state and byte each of the six loads of an immediate completes: the register holds the byte (SR all eight
bits), PC is two on, all else as before. Source first is the spec's decision D1 (log 11).
Basis: 40_move.md section 3, 92_eei_decisions.md D1. -/
def Obligations.MovImmediateToRegister : Prop :=
  ∀ (s : State) (imm : Byte),
    exec (.movImmToA imm) s = .next { s with a := imm, pc := s.pc + 2 } ∧
    exec (.movImmToB imm) s = .next { s with b := imm, pc := s.pc + 2 } ∧
    exec (.movImmToX imm) s = .next { s with x := imm, pc := s.pc + 2 } ∧
    exec (.movImmToY imm) s = .next { s with y := imm, pc := s.pc + 2 } ∧
    exec (.movImmToSP imm) s = .next { s with sp := imm, pc := s.pc + 2 } ∧
    exec (.movImmToSR imm) s = .next { s with sr := imm, pc := s.pc + 2 }

/-- For every state and byte both forms complete: exactly that byte goes to the stack address, or to the address XY, every
other address reads as before, PC is two on, all else (SP, X, Y too) as before. Source first is the spec's decision D1
(log 11).
Basis: 40_move.md section 3, 30_encoding.md section 2, 92_eei_decisions.md D1. -/
def Obligations.MovImmediateToMemory : Prop :=
  ∀ (s : State) (imm : Byte),
    CompletesStoring (.movImmToAtSP imm) s { s with pc := s.pc + 2 } s.stackAddr imm ∧
    CompletesStoring (.movImmToAtXY imm) s { s with pc := s.pc + 2 } s.xyAddr imm

/-- For every state and address each of the eight stores completes: exactly the operand's byte (a register, or the byte
read at the stack address or at XY) goes to the address, every other address reads as before, PC is three on, all else
as before but for the count of a read that an extension card answered. Source first is the spec's decision D1 (log
11), cards its decision D26 (logs 4, 5).
Basis: 40_move.md section 4, 20_memory.md section 7, 92_eei_decisions.md D1. -/
def Obligations.MovToAbsoluteAddress : Prop :=
  ∀ (s : State) (adr : Addr),
    CompletesStoring (.movAToMem adr) s { s with pc := s.pc + 3 } adr s.a ∧
    CompletesStoring (.movBToMem adr) s { s with pc := s.pc + 3 } adr s.b ∧
    CompletesStoring (.movXToMem adr) s { s with pc := s.pc + 3 } adr s.x ∧
    CompletesStoring (.movYToMem adr) s { s with pc := s.pc + 3 } adr s.y ∧
    CompletesStoring (.movSPToMem adr) s { s with pc := s.pc + 3 } adr s.sp ∧
    CompletesStoring (.movSRToMem adr) s { s with pc := s.pc + 3 } adr s.sr ∧
    CompletesStoring (.movAtSPToMem adr) s { s with pc := s.pc + 3, busReads := s.busReads + (s.isIO s.stackAddr).toNat } adr
      (s.memValue s.stackAddr) ∧
    CompletesStoring (.movAtXYToMem adr) s { s with pc := s.pc + 3, busReads := s.busReads + (s.isIO s.xyAddr).toNat } adr
      (s.memValue s.xyAddr)

/-- For every state and address each of the six loads completes: the register holds the byte read at the address (SR all
eight bits), PC is three on, all else as before but for the count of a read that an extension card answered; no flag
is set from the byte. Source first is the spec's decision D1 (log 11).
Basis: 40_move.md section 4, 20_memory.md section 7, 92_eei_decisions.md D1. -/
def Obligations.MovFromAbsoluteAddressToRegister : Prop :=
  ∀ (s : State) (adr : Addr),
    exec (.movMemToA adr) s = .next { s with
      a := s.memValue adr, pc := s.pc + 3, busReads := s.busReads + (s.isIO adr).toNat } ∧
    exec (.movMemToB adr) s = .next { s with
      b := s.memValue adr, pc := s.pc + 3, busReads := s.busReads + (s.isIO adr).toNat } ∧
    exec (.movMemToX adr) s = .next { s with
      x := s.memValue adr, pc := s.pc + 3, busReads := s.busReads + (s.isIO adr).toNat } ∧
    exec (.movMemToY adr) s = .next { s with
      y := s.memValue adr, pc := s.pc + 3, busReads := s.busReads + (s.isIO adr).toNat } ∧
    exec (.movMemToSP adr) s = .next { s with
      sp := s.memValue adr, pc := s.pc + 3, busReads := s.busReads + (s.isIO adr).toNat } ∧
    exec (.movMemToSR adr) s = .next { s with
      sr := s.memValue adr, pc := s.pc + 3, busReads := s.busReads + (s.isIO adr).toNat }

/-- For every state and address both forms complete: exactly the byte read at the address goes to the stack address, or to
the address XY, every other address reads as before, PC is three on, all else as before but for the count of a read
that an extension card answered. Source first is the spec's decision D1 (log 11).
Basis: 40_move.md section 4, 20_memory.md section 7, 92_eei_decisions.md D1. -/
def Obligations.MovFromAbsoluteAddressToMemory : Prop :=
  ∀ (s : State) (adr : Addr),
    CompletesStoring (.movMemToAtSP adr) s { s with pc := s.pc + 3, busReads := s.busReads + (s.isIO adr).toNat }
      s.stackAddr (s.memValue adr) ∧
    CompletesStoring (.movMemToAtXY adr) s { s with pc := s.pc + 3, busReads := s.busReads + (s.isIO adr).toNat }
      s.xyAddr (s.memValue adr)

/-- For every state and operand each of the eight pushes completes: exactly the operand's byte, read before SP moves, goes
to the stack address formed with the lowered SP, every other address reads as before, SP is one lower modulo 256, PC
is past the instruction, all else as before but for the count of a read that a card answered. Full descending is the
spec's decision D4, the stack page its decision D3 (log 12).
Basis: 43_stack_procedures.md section 1, 43_stack_procedures.md section 2, 92_eei_decisions.md D4. -/
def Obligations.PushCompletes : Prop :=
  ∀ (s : State) (imm : Byte) (adr : Addr),
    CompletesStoring .pushA s { s with sp := s.sp - 1, pc := s.pc + 1 } s.decSP.stackAddr s.a ∧
    CompletesStoring .pushB s { s with sp := s.sp - 1, pc := s.pc + 1 } s.decSP.stackAddr s.b ∧
    CompletesStoring .pushX s { s with sp := s.sp - 1, pc := s.pc + 1 } s.decSP.stackAddr s.x ∧
    CompletesStoring .pushY s { s with sp := s.sp - 1, pc := s.pc + 1 } s.decSP.stackAddr s.y ∧
    CompletesStoring .pushSR s { s with sp := s.sp - 1, pc := s.pc + 1 } s.decSP.stackAddr s.sr ∧
    CompletesStoring (.pushImm imm) s { s with sp := s.sp - 1, pc := s.pc + 2 } s.decSP.stackAddr imm ∧
    CompletesStoring (.pushMem adr) s
      { s with sp := s.sp - 1, pc := s.pc + 3, busReads := s.busReads + (s.isIO adr).toNat }
      s.decSP.stackAddr (s.memValue adr) ∧
    CompletesStoring .pushAtXY s
      { s with sp := s.sp - 1, pc := s.pc + 1, busReads := s.busReads + (s.isIO s.xyAddr).toNat }
      s.decSP.stackAddr (s.memValue s.xyAddr)

/-- For every state each of the five pops to a register completes: the register holds the byte read at the stack address
(SR all eight bits), SP is one higher modulo 256, PC is one on, all else (memory too) as before but for the count of a
read that a card answered. Full descending is the spec's decision D4 (log 12).
Basis: 43_stack_procedures.md section 1, 43_stack_procedures.md section 3, 92_eei_decisions.md D4. -/
def Obligations.PopToRegisterCompletes : Prop :=
  ∀ s : State,
    exec .popA s = .next { s with
      a := s.memValue s.stackAddr, sp := s.sp + 1, pc := s.pc + 1,
      busReads := s.busReads + (s.isIO s.stackAddr).toNat } ∧
    exec .popB s = .next { s with
      b := s.memValue s.stackAddr, sp := s.sp + 1, pc := s.pc + 1,
      busReads := s.busReads + (s.isIO s.stackAddr).toNat } ∧
    exec .popX s = .next { s with
      x := s.memValue s.stackAddr, sp := s.sp + 1, pc := s.pc + 1,
      busReads := s.busReads + (s.isIO s.stackAddr).toNat } ∧
    exec .popY s = .next { s with
      y := s.memValue s.stackAddr, sp := s.sp + 1, pc := s.pc + 1,
      busReads := s.busReads + (s.isIO s.stackAddr).toNat } ∧
    exec .popSR s = .next { s with
      sr := s.memValue s.stackAddr, sp := s.sp + 1, pc := s.pc + 1,
      busReads := s.busReads + (s.isIO s.stackAddr).toNat }

/-- For every state and address both forms complete: exactly the byte read at the stack address goes to the absolute
address, or to the address XY of the state after the pop, every other address reads as before, SP is one higher modulo
256, PC is past the instruction, all else as before but for the count of a read that a card answered. Full descending
is the spec's decision D4 (log 12).
Basis: 43_stack_procedures.md section 1, 43_stack_procedures.md section 3, 92_eei_decisions.md D4. -/
def Obligations.PopToMemoryCompletes : Prop :=
  ∀ (s : State) (adr : Addr),
    CompletesStoring (.popMem adr) s
      { s with sp := s.sp + 1, pc := s.pc + 3, busReads := s.busReads + (s.isIO s.stackAddr).toNat }
      adr (s.memValue s.stackAddr) ∧
    CompletesStoring .popAtXY s
      { s with sp := s.sp + 1, pc := s.pc + 1, busReads := s.busReads + (s.isIO s.stackAddr).toNat }
      s.pop.2.xyAddr (s.memValue s.stackAddr)

/-- For every state and byte where no extension card answers the pushed address: Pop after Push gives the byte, and the
state after both differs from the first in memory alone, SP wrapping too. Where a card answers it, the pushed byte
goes to the card and Pop gives the card's answer; that is stated of PUSH and POP themselves. Full descending is the
spec's decision D4 (log 12).
Basis: 43_stack_procedures.md section 1, 92_eei_decisions.md D4. -/
def Obligations.PopUndoesPush : Prop :=
  ∀ (s : State) (v : Byte), s.isIO s.decSP.stackAddr = false →
    (s.push v).pop = (v, { s with mem := (s.push v).mem })

/-- For every state and target CALL completes: the high byte of PC + 3 goes to the stack address one below, then the low
byte to the stack address two below, every other address reads as before, SP is two lower modulo 256, PC is the
target, all else as before. Where no card answers the two addresses, the two cells hold the return address, its low
byte at the lower SP. The pushed value and order are the spec's decision D5 (log 13).
Basis: 43_stack_procedures.md section 4, 20_memory.md section 2, 92_eei_decisions.md D5. -/
def Obligations.CallCompletes : Prop :=
  ∀ (s : State) (adr : Addr), ∃ u t : State,
    exec (.call adr) s = .next t ∧
    StoredByte s u s.decSP.stackAddr (highByte (s.pc + 3)) ∧
    u = { s with sp := s.sp - 1, mem := u.mem, busWrites := u.busWrites } ∧
    StoredByte u t s.decSP.decSP.stackAddr (lowByte (s.pc + 3)) ∧
    t = { s with sp := s.sp - 2, pc := adr, mem := t.mem, busWrites := t.busWrites } ∧
    (s.isIO s.decSP.stackAddr = false → s.isIO s.decSP.decSP.stackAddr = false →
      t.mem.read s.decSP.stackAddr = highByte (s.pc + 3) ∧ t.mem.read s.decSP.decSP.stackAddr = lowByte (s.pc + 3))

/-- For every state RET completes: PC is made of the byte read at the stack address (low) and the byte read after it with
SP raised by one (high), SP is two higher modulo 256, all else (memory too) as before but for the count of reads that
a card answered. Where no card answers the two addresses, the bytes are the two cells'. The order is the spec's
decision D5 (log 13).
Basis: 43_stack_procedures.md section 4, 92_eei_decisions.md D5. -/
def Obligations.RetCompletes : Prop :=
  ∀ s : State,
    exec .ret s = .next { s with
      pc := joinBytes (s.pop.2.memValue s.pop.2.stackAddr) (s.memValue s.stackAddr), sp := s.sp + 2,
      busReads := s.busReads + (s.isIO s.stackAddr).toNat + (s.isIO s.incSP.stackAddr).toNat } ∧
    (s.isIO s.stackAddr = false → s.isIO s.incSP.stackAddr = false →
      exec .ret s = .next { s with
        pc := joinBytes (s.mem.read s.incSP.stackAddr) (s.mem.read s.stackAddr), sp := s.sp + 2 })

/-- For every state and target where no extension card answers the two pushed addresses, and wherever PC has gone in
between: RET in the state after CALL completes with PC at the byte after the CALL, SP as it was before the CALL, and
all else but memory as it was. Rests on the spec's decision D5 (log 13).
Basis: 43_stack_procedures.md section 4, 92_eei_decisions.md D5. -/
def Obligations.RetReturnsFromCall : Prop :=
  ∀ (s t : State) (adr pc' : Addr), s.isIO s.decSP.stackAddr = false → s.isIO s.decSP.decSP.stackAddr = false →
    exec (.call adr) s = .next t → exec .ret { t with pc := pc' } = .next { s with pc := s.pc + 3, mem := t.mem }

/-- For every state ADD completes with each destination: the result is A + B modulo 256, CF says the unsigned sum is 256
or more, ZF that the result is 0, SF is its bit 7, OF says the signed sum is outside -128 to 127; the result goes to
the destination (A, B, X, Y, SP, the absolute address, the stack address or XY) and nowhere else, a memory destination
is not read, bits 7 to 4 of SR, every other register and every other address are as before, and PC is past the
instruction. The flag rules are the spec's decisions D6 and D8 (log 14).
Basis: 42_alu.md section 1, 42_alu.md section 2, 42_alu.md section 3, 92_eei_decisions.md D8. -/
def Obligations.AddCompletes : Prop :=
  ∀ s : State,
    CompletesAluGroup .addA .addB .addX .addY .addSP .addMem .addAtSP .addAtXY s
      { res := s.a + s.b, c := decide (256 ≤ s.a.toNat + s.b.toNat), z := decide (s.a + s.b = 0), s := (s.a + s.b)[7],
        o := decide (s.a.toInt + s.b.toInt < -128 ∨ 127 < s.a.toInt + s.b.toInt) }

/-- For every state SUB completes with each destination: the result is A - B modulo 256, CF says A is below B as unsigned
numbers, ZF that A = B, SF is bit 7 of the result, OF says the signed difference is outside -128 to 127; the result
goes to the destination (A, B, X, Y, SP, the absolute address, the stack address or XY) and nowhere else, a memory
destination is not read, bits 7 to 4 of SR, every other register and every other address are as before, and PC is past
the instruction. The flag rules are the spec's decisions D6 and D7 (log 14).
Basis: 42_alu.md section 1, 42_alu.md section 2, 42_alu.md section 3, 92_eei_decisions.md D7. -/
def Obligations.SubCompletes : Prop :=
  ∀ s : State,
    CompletesAluGroup .subA .subB .subX .subY .subSP .subMem .subAtSP .subAtXY s
      { res := s.a - s.b, c := decide (s.a.toNat < s.b.toNat), z := decide (s.a = s.b), s := (s.a - s.b)[7],
        o := decide (s.a.toInt - s.b.toInt < -128 ∨ 127 < s.a.toInt - s.b.toInt) }

/-- For every state ADC completes with each destination: the result is A + B + CF modulo 256 with the CF of before the
instruction, CF says the unsigned sum of the three is 256 or more, ZF that the result is 0, SF is its bit 7, OF says
the signed sum of the three is outside -128 to 127; the result goes to the destination (A, B, X, Y, SP, the absolute
address, the stack address or XY) and nowhere else, a memory destination is not read, bits 7 to 4 of SR, every other
register and every other address are as before, and PC is past the instruction. The flag rules are the spec's
decisions D6 and D8 (log 14).
Basis: 42_alu.md section 1, 42_alu.md section 2, 42_alu.md section 3, 92_eei_decisions.md D8. -/
def Obligations.AdcCompletes : Prop :=
  ∀ s : State,
    CompletesAluGroup .adcA .adcB .adcX .adcY .adcSP .adcMem .adcAtSP .adcAtXY s
      { res := s.a + s.b + BitVec.ofNat 8 s.sr[0].toNat,
        c := decide (256 ≤ s.a.toNat + s.b.toNat + s.sr[0].toNat),
        z := decide (s.a + s.b + BitVec.ofNat 8 s.sr[0].toNat = 0),
        s := (s.a + s.b + BitVec.ofNat 8 s.sr[0].toNat)[7],
        o := decide (s.a.toInt + s.b.toInt + s.sr[0].toNat < -128 ∨ 127 < s.a.toInt + s.b.toInt + s.sr[0].toNat) }

/-- For every state LSH completes with each destination: the result is A shifted left by the whole of B, 0 from 8 on; CF
is bit 8 - B of A for B from 1 to 8 and 0 otherwise; ZF that the result is 0, SF is its bit 7, OF is 0; the result
goes to the destination (A, B, X, Y, SP, the absolute address, the stack address or XY) and nowhere else, a memory
destination is not read, bits 7 to 4 of SR, every other register and every other address are as before, and PC is past
the instruction. The flag rules are the spec's decisions D6 and D11 (log 15).
Basis: 42_alu.md section 1, 42_alu.md section 2, 42_alu.md section 3, 92_eei_decisions.md D11. -/
def Obligations.LshCompletes : Prop :=
  ∀ s : State,
    CompletesAluGroup .lshA .lshB .lshX .lshY .lshSP .lshMem .lshAtSP .lshAtXY s
      { res := s.a <<< s.b.toNat,
        c := if 1 ≤ s.b.toNat ∧ s.b.toNat ≤ 8 then s.a.getLsbD (8 - s.b.toNat) else false,
        z := decide (s.a <<< s.b.toNat = 0), s := (s.a <<< s.b.toNat)[7], o := false }

/-- For every state RSH completes with each destination: the result is A shifted right by the whole of B, zeros entering,
0 from 8 on; CF and OF are 0, ZF says that the result is 0, SF is its bit 7; the result goes to the destination (A, B,
X, Y, SP, the absolute address, the stack address or XY) and nowhere else, a memory destination is not read, bits 7 to
4 of SR, every other register and every other address are as before, and PC is past the instruction. The flag rules
are the spec's decisions D6 and D11 (log 15).
Basis: 42_alu.md section 1, 42_alu.md section 2, 42_alu.md section 3, 92_eei_decisions.md D11. -/
def Obligations.RshCompletes : Prop :=
  ∀ s : State,
    CompletesAluGroup .rshA .rshB .rshX .rshY .rshSP .rshMem .rshAtSP .rshAtXY s
      { res := s.a >>> s.b.toNat, c := false, z := decide (s.a >>> s.b.toNat = 0), s := (s.a >>> s.b.toNat)[7],
        o := false }

/-- For every state OR completes with each destination: the result is the bitwise or of A and B, CF and OF are 0, ZF says
that the result is 0, SF is its bit 7; the result goes to the destination (A, B, X, Y, SP, the absolute address, the
stack address or XY) and nowhere else, a memory destination is not read, bits 7 to 4 of SR, every other register and
every other address are as before, and PC is past the instruction. The flag rules are the spec's decisions D6 and D10
(log 14).
Basis: 42_alu.md section 1, 42_alu.md section 2, 42_alu.md section 3, 92_eei_decisions.md D10. -/
def Obligations.OrCompletes : Prop :=
  ∀ s : State,
    CompletesAluGroup .orA .orB .orX .orY .orSP .orMem .orAtSP .orAtXY s
      { res := s.a ||| s.b, c := false, z := decide (s.a ||| s.b = 0), s := (s.a ||| s.b)[7], o := false }

/-- For every state AND completes with each destination: the result is the bitwise and of A and B, CF and OF are 0, ZF
says that the result is 0, SF is its bit 7; the result goes to the destination (A, B, X, Y, SP, the absolute address,
the stack address or XY) and nowhere else, a memory destination is not read, bits 7 to 4 of SR, every other register
and every other address are as before, and PC is past the instruction. The flag rules are the spec's decisions D6 and
D10 (log 14).
Basis: 42_alu.md section 1, 42_alu.md section 2, 42_alu.md section 3, 92_eei_decisions.md D10. -/
def Obligations.AndCompletes : Prop :=
  ∀ s : State,
    CompletesAluGroup .andA .andB .andX .andY .andSP .andMem .andAtSP .andAtXY s
      { res := s.a &&& s.b, c := false, z := decide (s.a &&& s.b = 0), s := (s.a &&& s.b)[7], o := false }

/-- For every state XOR completes with each destination: the result is the bitwise exclusive or of A and B, CF and OF are
0, ZF says that the result is 0, SF is its bit 7; the result goes to the destination (A, B, X, Y, SP, the absolute
address, the stack address or XY) and nowhere else, a memory destination is not read, bits 7 to 4 of SR, every other
register and every other address are as before, and PC is past the instruction. The flag rules are the spec's
decisions D6 and D10 (log 14).
Basis: 42_alu.md section 1, 42_alu.md section 2, 42_alu.md section 3, 92_eei_decisions.md D10. -/
def Obligations.XorCompletes : Prop :=
  ∀ s : State,
    CompletesAluGroup .xorA .xorB .xorX .xorY .xorSP .xorMem .xorAtSP .xorAtXY s
      { res := s.a ^^^ s.b, c := false, z := decide (s.a ^^^ s.b = 0), s := (s.a ^^^ s.b)[7], o := false }

/-- For every state CMP completes: CF says A is below B as unsigned numbers, ZF that A = B, SF is bit 7 of A - B, OF says
the signed difference is outside -128 to 127, bits 7 to 4 of SR, every register, memory and all else are as before, PC
is one on. That CMP computes the flags of the subtraction is the spec's decision D7 (log 14).
Basis: 42_alu.md section 4, 92_eei_decisions.md D7. -/
def Obligations.CmpCompletes : Prop :=
  ∀ s : State, ∃ t : State, exec .cmp s = .next t ∧
    FlagsWritten s.sr t.sr (decide (s.a.toNat < s.b.toNat)) (decide (s.a = s.b)) (s.a - s.b)[7]
      (decide (s.a.toInt - s.b.toInt < -128 ∨ 127 < s.a.toInt - s.b.toInt)) ∧
    t = { s with sr := t.sr, pc := s.pc + 1 }

/-- For every state INC completes with A + 1 in A, CF and ZF set exactly when A was 0xFF and OF exactly when A was 0x7F,
and DEC with A - 1 in A, CF set exactly when A was 0x00, ZF exactly when A was 0x01 and OF exactly when A was 0x80; SF
is bit 7 of the result; B is neither read nor changed, bits 7 to 4 of SR, memory and all else as before, PC one on.
The flags are the spec's decision D9 (log 14).
Basis: 42_alu.md section 4, 92_eei_decisions.md D9. -/
def Obligations.IncDecComplete : Prop :=
  ∀ s : State,
    CompletesAluToRegister .inc s .A
      { res := s.a + 1, c := decide (s.a = 0xFF), z := decide (s.a = 0xFF), s := (s.a + 1)[7], o := decide (s.a = 0x7F) } ∧
    CompletesAluToRegister .dec s .A
      { res := s.a - 1, c := decide (s.a = 0x00), z := decide (s.a = 0x01), s := (s.a - 1)[7], o := decide (s.a = 0x80) }

/-- For all operand bytes and carry: OF of an addition is 1 exactly when the operands' bits 7 agree and the result's
differs from them; OF of a subtraction is 1 exactly when they differ and the result's differs from the first. The flag
functions are the spec's decisions D7 and D8 (log 14).
Basis: 42_alu.md section 2, 92_eei_decisions.md D7, D8. -/
def Obligations.OverflowBitFormulas : Prop :=
  ∀ (a b : Byte) (cin : Bool),
    (addFlags a b cin).o = (a[7] == b[7] && (addFlags a b cin).res[7] != a[7]) ∧
    (subFlags a b).o = (a[7] != b[7] && (subFlags a b).res[7] != a[7])

/-- For every state and target the five jumps complete: opcode bytes 0xD0 to 0xD4, then the target low byte first; PC is
the target always, if OF = 1, if OF = 0, if SF = 1, if SF = 0, and PC + 3 otherwise; every register, flag, memory cell
and other field is as before. The order of the target's bytes is the spec's decision D27 (log 20).
Basis: 41_jump.md section 1 (R130), 41_jump.md section 2 (R131 to R135), 30_encoding.md section 2 (R87), 20_memory.md section 2 (R52), 92_eei_decisions.md D27. -/
def Obligations.JumpsOnOneFlag : Prop :=
  ∀ (s : State) (adr : Addr),
    encode (.jmp adr) = [0xD0, lowByte adr, highByte adr] ∧ (Instr.jmp adr).sourceName = "JMP" ∧
    exec (.jmp adr) s = .next { s with pc := adr } ∧
    encode (.jo adr) = [0xD1, lowByte adr, highByte adr] ∧ (Instr.jo adr).sourceName = "JO" ∧
    exec (.jo adr) s = .next { s with pc := if s.sr[3] = true then adr else s.pc + 3 } ∧
    encode (.jno adr) = [0xD2, lowByte adr, highByte adr] ∧ (Instr.jno adr).sourceName = "JNO" ∧
    exec (.jno adr) s = .next { s with pc := if s.sr[3] = false then adr else s.pc + 3 } ∧
    encode (.js adr) = [0xD3, lowByte adr, highByte adr] ∧ (Instr.js adr).sourceName = "JS" ∧
    exec (.js adr) s = .next { s with pc := if s.sr[2] = true then adr else s.pc + 3 } ∧
    encode (.jns adr) = [0xD4, lowByte adr, highByte adr] ∧ (Instr.jns adr).sourceName = "JNS" ∧
    exec (.jns adr) s = .next { s with pc := if s.sr[2] = false then adr else s.pc + 3 }

/-- For every state and target the six jumps complete: opcode bytes 0xD5 to 0xDA, then the target low byte first; PC is
the target on their condition over ZF and CF and PC + 3 otherwise; all else as before. In a state that CMP has just
left they are taken exactly when A = B, A ≠ B, A < B, A ≥ B, A ≤ B, A > B as unsigned numbers. The order of the
target's bytes is the spec's decision D27 (log 20), what CMP leaves in the flags its decision D7 (log 14); R137 itself
says nothing of JNE after CMP. The last clause says of the two bits alone that the conditions of JA and JBE are
opposite; that of the two instructions exactly one is taken is JumpPairsAreOpposite.
Basis: 41_jump.md section 1 (R130), 41_jump.md section 2 (R136 to R141), 30_encoding.md section 2 (R87), 20_memory.md section 2 (R52), 42_alu.md section 2 (R153), 42_alu.md section 4 (R172), 92_eei_decisions.md D7, D27. -/
def Obligations.JumpsOnUnsignedComparison : Prop :=
  ∀ (s : State) (adr : Addr),
    encode (.je adr) = [0xD5, lowByte adr, highByte adr] ∧ (Instr.je adr).sourceName = "JE/JZ" ∧
    exec (.je adr) s = .next { s with pc := if s.sr[1] = true then adr else s.pc + 3 } ∧
    encode (.jne adr) = [0xD6, lowByte adr, highByte adr] ∧ (Instr.jne adr).sourceName = "JNE/JNZ" ∧
    exec (.jne adr) s = .next { s with pc := if s.sr[1] = false then adr else s.pc + 3 } ∧
    encode (.jb adr) = [0xD7, lowByte adr, highByte adr] ∧ (Instr.jb adr).sourceName = "JB/JC" ∧
    exec (.jb adr) s = .next { s with pc := if s.sr[0] = true then adr else s.pc + 3 } ∧
    encode (.jnb adr) = [0xD8, lowByte adr, highByte adr] ∧ (Instr.jnb adr).sourceName = "JNB/JNC" ∧
    exec (.jnb adr) s = .next { s with pc := if s.sr[0] = false then adr else s.pc + 3 } ∧
    encode (.jbe adr) = [0xD9, lowByte adr, highByte adr] ∧ (Instr.jbe adr).sourceName = "JBE" ∧
    exec (.jbe adr) s = .next { s with pc := if s.sr[0] = true ∨ s.sr[1] = true then adr else s.pc + 3 } ∧
    encode (.ja adr) = [0xDA, lowByte adr, highByte adr] ∧ (Instr.ja adr).sourceName = "JA" ∧
    exec (.ja adr) s = .next { s with pc := if s.sr[0] = false ∧ s.sr[1] = false then adr else s.pc + 3 } ∧
    (∀ u : State, exec .cmp u = .next s →
      exec (.je adr) s = .next { s with pc := if u.a = u.b then adr else s.pc + 3 } ∧
      exec (.jne adr) s = .next { s with pc := if u.a ≠ u.b then adr else s.pc + 3 } ∧
      exec (.jb adr) s = .next { s with pc := if u.a.toNat < u.b.toNat then adr else s.pc + 3 } ∧
      exec (.jnb adr) s = .next { s with pc := if u.b.toNat ≤ u.a.toNat then adr else s.pc + 3 } ∧
      exec (.jbe adr) s = .next { s with pc := if u.a.toNat ≤ u.b.toNat then adr else s.pc + 3 } ∧
      exec (.ja adr) s = .next { s with pc := if u.b.toNat < u.a.toNat then adr else s.pc + 3 }) ∧
    ((s.sr[0] = false ∧ s.sr[1] = false) ↔ ¬(s.sr[0] = true ∨ s.sr[1] = true))

/-- For every state and target the four jumps complete: opcode bytes 0xDB to 0xDE, then the target low byte first; PC is
the target on their condition over SF, OF and ZF and PC + 3 otherwise; all else as before. In a state that CMP has
just left they are taken exactly when A < B, A ≥ B, A ≤ B, A > B as two's-complement numbers. The order of the
target's bytes is the spec's decision D27 (log 20), what CMP leaves in the flags its decision D7 (log 14). The last
two clauses say of the SR bits alone that the conditions of JGE and JL, and of JG and JLE, are opposite; that of the
two instructions exactly one is taken is JumpPairsAreOpposite.
Basis: 41_jump.md section 1 (R130), 41_jump.md section 2 (R142 to R145), 30_encoding.md section 2 (R87), 20_memory.md section 2 (R52), 42_alu.md section 2 (R153), 42_alu.md section 4 (R172), 92_eei_decisions.md D7, D27. -/
def Obligations.JumpsOnSignedComparison : Prop :=
  ∀ (s : State) (adr : Addr),
    encode (.jl adr) = [0xDB, lowByte adr, highByte adr] ∧ (Instr.jl adr).sourceName = "JL" ∧
    exec (.jl adr) s = .next { s with pc := if s.sr[2] ≠ s.sr[3] then adr else s.pc + 3 } ∧
    encode (.jge adr) = [0xDC, lowByte adr, highByte adr] ∧ (Instr.jge adr).sourceName = "JGE" ∧
    exec (.jge adr) s = .next { s with pc := if s.sr[2] = s.sr[3] then adr else s.pc + 3 } ∧
    encode (.jle adr) = [0xDD, lowByte adr, highByte adr] ∧ (Instr.jle adr).sourceName = "JLE" ∧
    exec (.jle adr) s = .next { s with pc := if s.sr[1] = true ∨ s.sr[2] ≠ s.sr[3] then adr else s.pc + 3 } ∧
    encode (.jg adr) = [0xDE, lowByte adr, highByte adr] ∧ (Instr.jg adr).sourceName = "JG" ∧
    exec (.jg adr) s = .next { s with pc := if s.sr[1] = false ∧ s.sr[2] = s.sr[3] then adr else s.pc + 3 } ∧
    (∀ u : State, exec .cmp u = .next s →
      exec (.jl adr) s = .next { s with pc := if u.a.toInt < u.b.toInt then adr else s.pc + 3 } ∧
      exec (.jge adr) s = .next { s with pc := if u.b.toInt ≤ u.a.toInt then adr else s.pc + 3 } ∧
      exec (.jle adr) s = .next { s with pc := if u.a.toInt ≤ u.b.toInt then adr else s.pc + 3 } ∧
      exec (.jg adr) s = .next { s with pc := if u.b.toInt < u.a.toInt then adr else s.pc + 3 }) ∧
    (s.sr[2] = s.sr[3] ↔ ¬(s.sr[2] ≠ s.sr[3])) ∧
    ((s.sr[1] = false ∧ s.sr[2] = s.sr[3]) ↔ ¬(s.sr[1] = true ∨ s.sr[2] ≠ s.sr[3]))

/-- For every state and target, in each of the pairs JO/JNO, JS/JNS, JE/JNE, JB/JNB, JBE/JA, JL/JGE, JLE/JG one
instruction goes to the target and the other to PC + 3, with all else as before.
Basis: 41_jump.md section 3. -/
def Obligations.JumpPairsAreOpposite : Prop :=
  ∀ (s : State) (adr : Addr), ∀ p ∈ [
      (Instr.jo adr, Instr.jno adr),
      (Instr.js adr, Instr.jns adr),
      (Instr.je adr, Instr.jne adr),
      (Instr.jb adr, Instr.jnb adr),
      (Instr.jbe adr, Instr.ja adr),
      (Instr.jl adr, Instr.jge adr),
      (Instr.jle adr, Instr.jg adr)],
    (exec p.1 s = .next { s with pc := adr } ∧ exec p.2 s = .next { s with pc := s.pc + 3 }) ∨
    (exec p.1 s = .next { s with pc := s.pc + 3 } ∧ exec p.2 s = .next { s with pc := adr })

/-- For every state the four instructions complete: opcode bytes 0xF0 to 0xF3; CF is 0, CF is 1, OF is 0, OF is 1 after
them; every other bit of SR, every register, memory and all else are as before; PC is one on.
Basis: R220, R221, R222, R223. -/
def Obligations.FlagInstructionsComplete : Prop :=
  ∀ s : State,
    (encode .clc = [0xF0] ∧ ∃ v : Byte, exec .clc s = .next { s with sr := v, pc := s.pc + 1 } ∧ v[0] = false ∧
      ∀ k, k ≠ 0 → v.getLsbD k = s.sr.getLsbD k) ∧
    (encode .sec = [0xF1] ∧ ∃ v : Byte, exec .sec s = .next { s with sr := v, pc := s.pc + 1 } ∧ v[0] = true ∧
      ∀ k, k ≠ 0 → v.getLsbD k = s.sr.getLsbD k) ∧
    (encode .clo = [0xF2] ∧ ∃ v : Byte, exec .clo s = .next { s with sr := v, pc := s.pc + 1 } ∧ v[3] = false ∧
      ∀ k, k ≠ 3 → v.getLsbD k = s.sr.getLsbD k) ∧
    (encode .seo = [0xF3] ∧ ∃ v : Byte, exec .seo s = .next { s with sr := v, pc := s.pc + 1 } ∧ v[3] = true ∧
      ∀ k, k ≠ 3 → v.getLsbD k = s.sr.getLsbD k)

/-- For every state HLT completes: the processor is halted, PC is one on, all else as before. The final PC is the spec's
decision D18 (log 8).
Basis: 45_flag_and_halt.md (HLT), 92_eei_decisions.md D18. -/
def Obligations.HltCompletes : Prop :=
  ∀ s : State, exec .hlt s = .next { s with halted := true, pc := s.pc + 1 }

/-- For every state the effect the spec gives CLI leaves IE = 0 and that of SEI IE = 1, with the other seven bits of SR
and all other fields, PC too, as before. R214 and R215 move PC to next but give no length, so that PC keeps its value
is the model's choice and no rule of the spec (log 29). Neither has an opcode: this is about the two operations the
model writes down, not about an instruction (log 17).
Basis: 44_interrupt_instructions.md section 2 (R214, R215). -/
def Obligations.CliSeiEffectOnSR : Prop :=
  ∀ s : State,
    (∃ v : Byte, s.cliEffect = { s with sr := v } ∧ v[7] = false ∧ ∀ k, k ≠ 7 → v.getLsbD k = s.sr.getLsbD k) ∧
    (∃ v : Byte, s.seiEffect = { s with sr := v } ∧ v[7] = true ∧ ∀ k, k ≠ 7 → v.getLsbD k = s.sr.getLsbD k)

/-- Every instruction has the length that the table of R81 gives its opcode byte, and a byte has no length there exactly
when it is no instruction's opcode. A fetch that gives an instruction gives one whose opcode is the byte read at PC;
and in any two states whose bytes read at PC, PC + 1 and PC + 2 are the same, whatever else they hold, if the fetch
gives an instruction in one it gives the same in the other: no prefix, no mode bit, nothing in the state changes how a
byte decodes.
Basis: R81. -/
def Obligations.LengthIsGivenByOpcodeAlone : Prop :=
  (∀ i : Instr, lengthOfOpcode (opcodeOf i) = some (encode i).length) ∧
  (∀ op : Byte, lengthOfOpcode op = none ↔ ∀ i : Instr, opcodeOf i ≠ op) ∧
  (∀ (s u : State) (i : Instr), s.fetch = .ok (i, u) → opcodeOf i = s.memValue s.pc) ∧
  (∀ (s t u : State) (i : Instr), (s.readBytes s.pc 3).1 = (t.readBytes t.pc 3).1 → s.fetch = .ok (i, u) →
    ∃ v, t.fetch = .ok (i, v))

/-- For every state XY is 256 times Y plus X, X its low and Y its high byte, and writing X or Y changes that byte of it.
For every instruction that completes: X is as before unless X is a named operand, Y is as before unless Y is, XY is as
before unless one of them is; at most one of the two changes, so none loads or increments XY as a unit; and unless X,
Y or [XY] is a named operand, other values of X and Y make no difference to it but that they stay. A named operand may
be a source as well as a destination, so this is weaker than R24, where only writing changes X or Y: which
instructions write them is RegistersChangeOnlyAsListed. Of the instructions that do name X, Y or [XY] it does not say
what XY is used for.
Basis: 10_state.md section 1 (R24), 20_memory.md section 3 (R72). -/
def Obligations.XYIsThePairOfXAndY : Prop :=
  ∀ s : State,
    (s.xyAddr.toNat = s.y.toNat * 256 + s.x.toNat ∧ lowByte s.xyAddr = s.x ∧ highByte s.xyAddr = s.y) ∧
    (∀ v : Byte, (s.setReg .X v).xyAddr = joinBytes s.y v ∧ (s.setReg .Y v).xyAddr = joinBytes v s.x) ∧
    ∀ (i : Instr) (t : State), exec i s = .next t →
      (.reg .X ∉ namedOperands i → t.x = s.x) ∧ (.reg .Y ∉ namedOperands i → t.y = s.y) ∧
      (.reg .X ∉ namedOperands i → .reg .Y ∉ namedOperands i → t.xyAddr = s.xyAddr) ∧
      (t.x = s.x ∨ t.y = s.y) ∧
      (.reg .X ∉ namedOperands i → .reg .Y ∉ namedOperands i → .atXY ∉ namedOperands i →
        ∀ v w : Byte, exec i { s with x := v, y := w } = .next { t with x := v, y := w })
end

