-- ==== Sys2Proof/Laws/State.lean ====
section
/-! SUPPORT. One lemma per field per update of the state, so that no later proof unfolds a record update. -/

namespace Sys2Proof.Machine.State

variable (s : State)

/-! ### jump -/

@[simp] theorem jump_a (t : Addr) : (s.jump t).a = s.a := rfl
@[simp] theorem jump_b (t : Addr) : (s.jump t).b = s.b := rfl
@[simp] theorem jump_x (t : Addr) : (s.jump t).x = s.x := rfl
@[simp] theorem jump_y (t : Addr) : (s.jump t).y = s.y := rfl
@[simp] theorem jump_sp (t : Addr) : (s.jump t).sp = s.sp := rfl
@[simp] theorem jump_sr (t : Addr) : (s.jump t).sr = s.sr := rfl
@[simp] theorem jump_pc (t : Addr) : (s.jump t).pc = t := rfl
@[simp] theorem jump_halted (t : Addr) : (s.jump t).halted = s.halted := rfl
@[simp] theorem jump_mem (t : Addr) : (s.jump t).mem = s.mem := rfl
@[simp] theorem jump_params (t : Addr) : (s.jump t).params = s.params := rfl
@[simp] theorem jump_busReads (t : Addr) : (s.jump t).busReads = s.busReads := rfl
@[simp] theorem jump_busWrites (t : Addr) : (s.jump t).busWrites = s.busWrites := rfl

/-! ### advance -/

@[simp] theorem advance_a (n : Nat) : (s.advance n).a = s.a := rfl
@[simp] theorem advance_b (n : Nat) : (s.advance n).b = s.b := rfl
@[simp] theorem advance_x (n : Nat) : (s.advance n).x = s.x := rfl
@[simp] theorem advance_y (n : Nat) : (s.advance n).y = s.y := rfl
@[simp] theorem advance_sp (n : Nat) : (s.advance n).sp = s.sp := rfl
@[simp] theorem advance_sr (n : Nat) : (s.advance n).sr = s.sr := rfl
@[simp] theorem advance_pc (n : Nat) : (s.advance n).pc = s.next n := rfl
@[simp] theorem advance_halted (n : Nat) : (s.advance n).halted = s.halted := rfl
@[simp] theorem advance_mem (n : Nat) : (s.advance n).mem = s.mem := rfl
@[simp] theorem advance_params (n : Nat) : (s.advance n).params = s.params := rfl
@[simp] theorem advance_busReads (n : Nat) : (s.advance n).busReads = s.busReads := rfl
@[simp] theorem advance_busWrites (n : Nat) : (s.advance n).busWrites = s.busWrites := rfl

/-! ### setSR -/

@[simp] theorem setSR_a (v : Byte) : (s.setSR v).a = s.a := rfl
@[simp] theorem setSR_b (v : Byte) : (s.setSR v).b = s.b := rfl
@[simp] theorem setSR_x (v : Byte) : (s.setSR v).x = s.x := rfl
@[simp] theorem setSR_y (v : Byte) : (s.setSR v).y = s.y := rfl
@[simp] theorem setSR_sp (v : Byte) : (s.setSR v).sp = s.sp := rfl
@[simp] theorem setSR_sr (v : Byte) : (s.setSR v).sr = v := rfl
@[simp] theorem setSR_pc (v : Byte) : (s.setSR v).pc = s.pc := rfl
@[simp] theorem setSR_halted (v : Byte) : (s.setSR v).halted = s.halted := rfl
@[simp] theorem setSR_mem (v : Byte) : (s.setSR v).mem = s.mem := rfl
@[simp] theorem setSR_params (v : Byte) : (s.setSR v).params = s.params := rfl
@[simp] theorem setSR_busReads (v : Byte) : (s.setSR v).busReads = s.busReads := rfl
@[simp] theorem setSR_busWrites (v : Byte) : (s.setSR v).busWrites = s.busWrites := rfl

/-! ### setFlags -/

@[simp] theorem setFlags_a (r : AluOut) : (s.setFlags r).a = s.a := rfl
@[simp] theorem setFlags_b (r : AluOut) : (s.setFlags r).b = s.b := rfl
@[simp] theorem setFlags_x (r : AluOut) : (s.setFlags r).x = s.x := rfl
@[simp] theorem setFlags_y (r : AluOut) : (s.setFlags r).y = s.y := rfl
@[simp] theorem setFlags_sp (r : AluOut) : (s.setFlags r).sp = s.sp := rfl
@[simp] theorem setFlags_sr (r : AluOut) : (s.setFlags r).sr = withFlags s.sr r := rfl
@[simp] theorem setFlags_pc (r : AluOut) : (s.setFlags r).pc = s.pc := rfl
@[simp] theorem setFlags_halted (r : AluOut) : (s.setFlags r).halted = s.halted := rfl
@[simp] theorem setFlags_mem (r : AluOut) : (s.setFlags r).mem = s.mem := rfl
@[simp] theorem setFlags_params (r : AluOut) : (s.setFlags r).params = s.params := rfl
@[simp] theorem setFlags_busReads (r : AluOut) : (s.setFlags r).busReads = s.busReads := rfl
@[simp] theorem setFlags_busWrites (r : AluOut) : (s.setFlags r).busWrites = s.busWrites := rfl

/-! ### decSP -/

@[simp] theorem decSP_a : (s.decSP).a = s.a := rfl
@[simp] theorem decSP_b : (s.decSP).b = s.b := rfl
@[simp] theorem decSP_x : (s.decSP).x = s.x := rfl
@[simp] theorem decSP_y : (s.decSP).y = s.y := rfl
@[simp] theorem decSP_sp : (s.decSP).sp = s.sp - 1 := rfl
@[simp] theorem decSP_sr : (s.decSP).sr = s.sr := rfl
@[simp] theorem decSP_pc : (s.decSP).pc = s.pc := rfl
@[simp] theorem decSP_halted : (s.decSP).halted = s.halted := rfl
@[simp] theorem decSP_mem : (s.decSP).mem = s.mem := rfl
@[simp] theorem decSP_params : (s.decSP).params = s.params := rfl
@[simp] theorem decSP_busReads : (s.decSP).busReads = s.busReads := rfl
@[simp] theorem decSP_busWrites : (s.decSP).busWrites = s.busWrites := rfl

/-! ### incSP -/

@[simp] theorem incSP_a : (s.incSP).a = s.a := rfl
@[simp] theorem incSP_b : (s.incSP).b = s.b := rfl
@[simp] theorem incSP_x : (s.incSP).x = s.x := rfl
@[simp] theorem incSP_y : (s.incSP).y = s.y := rfl
@[simp] theorem incSP_sp : (s.incSP).sp = s.sp + 1 := rfl
@[simp] theorem incSP_sr : (s.incSP).sr = s.sr := rfl
@[simp] theorem incSP_pc : (s.incSP).pc = s.pc := rfl
@[simp] theorem incSP_halted : (s.incSP).halted = s.halted := rfl
@[simp] theorem incSP_mem : (s.incSP).mem = s.mem := rfl
@[simp] theorem incSP_params : (s.incSP).params = s.params := rfl
@[simp] theorem incSP_busReads : (s.incSP).busReads = s.busReads := rfl
@[simp] theorem incSP_busWrites : (s.incSP).busWrites = s.busWrites := rfl

/-! ### halt -/

@[simp] theorem halt_a : (s.halt).a = s.a := rfl
@[simp] theorem halt_b : (s.halt).b = s.b := rfl
@[simp] theorem halt_x : (s.halt).x = s.x := rfl
@[simp] theorem halt_y : (s.halt).y = s.y := rfl
@[simp] theorem halt_sp : (s.halt).sp = s.sp := rfl
@[simp] theorem halt_sr : (s.halt).sr = s.sr := rfl
@[simp] theorem halt_pc : (s.halt).pc = s.pc := rfl
@[simp] theorem halt_halted : (s.halt).halted = true := rfl
@[simp] theorem halt_mem : (s.halt).mem = s.mem := rfl
@[simp] theorem halt_params : (s.halt).params = s.params := rfl
@[simp] theorem halt_busReads : (s.halt).busReads = s.busReads := rfl
@[simp] theorem halt_busWrites : (s.halt).busWrites = s.busWrites := rfl

/-! ### noteRead -/

@[simp] theorem noteRead_a (a : Addr) : (s.noteRead a).a = s.a := rfl
@[simp] theorem noteRead_b (a : Addr) : (s.noteRead a).b = s.b := rfl
@[simp] theorem noteRead_x (a : Addr) : (s.noteRead a).x = s.x := rfl
@[simp] theorem noteRead_y (a : Addr) : (s.noteRead a).y = s.y := rfl
@[simp] theorem noteRead_sp (a : Addr) : (s.noteRead a).sp = s.sp := rfl
@[simp] theorem noteRead_sr (a : Addr) : (s.noteRead a).sr = s.sr := rfl
@[simp] theorem noteRead_pc (a : Addr) : (s.noteRead a).pc = s.pc := rfl
@[simp] theorem noteRead_halted (a : Addr) : (s.noteRead a).halted = s.halted := rfl
@[simp] theorem noteRead_mem (a : Addr) : (s.noteRead a).mem = s.mem := rfl
@[simp] theorem noteRead_params (a : Addr) : (s.noteRead a).params = s.params := rfl
@[simp] theorem noteRead_busReads (a : Addr) : (s.noteRead a).busReads = s.busReads + (s.isIO a).toNat := rfl
@[simp] theorem noteRead_busWrites (a : Addr) : (s.noteRead a).busWrites = s.busWrites := rfl

/-! ### memWrite -/

@[simp] theorem memWrite_a (a : Addr) (v : Byte) : (s.memWrite a v).a = s.a := rfl
@[simp] theorem memWrite_b (a : Addr) (v : Byte) : (s.memWrite a v).b = s.b := rfl
@[simp] theorem memWrite_x (a : Addr) (v : Byte) : (s.memWrite a v).x = s.x := rfl
@[simp] theorem memWrite_y (a : Addr) (v : Byte) : (s.memWrite a v).y = s.y := rfl
@[simp] theorem memWrite_sp (a : Addr) (v : Byte) : (s.memWrite a v).sp = s.sp := rfl
@[simp] theorem memWrite_sr (a : Addr) (v : Byte) : (s.memWrite a v).sr = s.sr := rfl
@[simp] theorem memWrite_pc (a : Addr) (v : Byte) : (s.memWrite a v).pc = s.pc := rfl
@[simp] theorem memWrite_halted (a : Addr) (v : Byte) : (s.memWrite a v).halted = s.halted := rfl
@[simp] theorem memWrite_mem (a : Addr) (v : Byte) : (s.memWrite a v).mem = bif s.isIO a then s.mem else s.mem.write a v := rfl
@[simp] theorem memWrite_params (a : Addr) (v : Byte) : (s.memWrite a v).params = s.params := rfl
@[simp] theorem memWrite_busReads (a : Addr) (v : Byte) : (s.memWrite a v).busReads = s.busReads := rfl
@[simp] theorem memWrite_busWrites (a : Addr) (v : Byte) : (s.memWrite a v).busWrites = bif s.isIO a then (a, v) :: s.busWrites else s.busWrites := rfl

/-! ### push -/

@[simp] theorem push_a (v : Byte) : (s.push v).a = s.a := rfl
@[simp] theorem push_b (v : Byte) : (s.push v).b = s.b := rfl
@[simp] theorem push_x (v : Byte) : (s.push v).x = s.x := rfl
@[simp] theorem push_y (v : Byte) : (s.push v).y = s.y := rfl
@[simp] theorem push_sp (v : Byte) : (s.push v).sp = s.sp - 1 := rfl
@[simp] theorem push_sr (v : Byte) : (s.push v).sr = s.sr := rfl
@[simp] theorem push_pc (v : Byte) : (s.push v).pc = s.pc := rfl
@[simp] theorem push_halted (v : Byte) : (s.push v).halted = s.halted := rfl
@[simp] theorem push_mem (v : Byte) : (s.push v).mem = bif s.isIO s.decSP.stackAddr then s.mem else s.mem.write s.decSP.stackAddr v := rfl
@[simp] theorem push_params (v : Byte) : (s.push v).params = s.params := rfl
@[simp] theorem push_busReads (v : Byte) : (s.push v).busReads = s.busReads := rfl
@[simp] theorem push_busWrites (v : Byte) : (s.push v).busWrites = bif s.isIO s.decSP.stackAddr then (s.decSP.stackAddr, v) :: s.busWrites else s.busWrites := rfl

/-! ### setReg -/

@[simp] theorem setReg_a (r : Reg) (v : Byte) : (s.setReg r v).a = if r = .A then v else s.a := by cases r <;> rfl
@[simp] theorem setReg_b (r : Reg) (v : Byte) : (s.setReg r v).b = if r = .B then v else s.b := by cases r <;> rfl
@[simp] theorem setReg_x (r : Reg) (v : Byte) : (s.setReg r v).x = if r = .X then v else s.x := by cases r <;> rfl
@[simp] theorem setReg_y (r : Reg) (v : Byte) : (s.setReg r v).y = if r = .Y then v else s.y := by cases r <;> rfl
@[simp] theorem setReg_sp (r : Reg) (v : Byte) : (s.setReg r v).sp = if r = .SP then v else s.sp := by cases r <;> rfl
@[simp] theorem setReg_sr (r : Reg) (v : Byte) : (s.setReg r v).sr = if r = .SR then v else s.sr := by cases r <;> rfl
@[simp] theorem setReg_pc (r : Reg) (v : Byte) : (s.setReg r v).pc = s.pc := by cases r <;> rfl
@[simp] theorem setReg_halted (r : Reg) (v : Byte) : (s.setReg r v).halted = s.halted := by cases r <;> rfl
@[simp] theorem setReg_mem (r : Reg) (v : Byte) : (s.setReg r v).mem = s.mem := by cases r <;> rfl
@[simp] theorem setReg_params (r : Reg) (v : Byte) : (s.setReg r v).params = s.params := by cases r <;> rfl
@[simp] theorem setReg_busReads (r : Reg) (v : Byte) : (s.setReg r v).busReads = s.busReads := by cases r <;> rfl
@[simp] theorem setReg_busWrites (r : Reg) (v : Byte) : (s.setReg r v).busWrites = s.busWrites := by cases r <;> rfl

/-! ### What depends on a few fields only -/

theorem isIO_eq {s t : State} (h : t.params = s.params) : t.isIO = s.isIO := by
  funext a
  simp only [isIO, h]

theorem stackAddr_eq {s t : State} (h : t.params = s.params) (h' : t.sp = s.sp) : t.stackAddr = s.stackAddr := by
  simp only [stackAddr, h, h']

theorem xyAddr_eq {s t : State} (h : t.x = s.x) (h' : t.y = s.y) : t.xyAddr = s.xyAddr := by
  simp only [xyAddr, h, h']

theorem memValue_eq {s t : State} (h : t.params = s.params) (h' : t.busReads = s.busReads) (h'' : t.mem = s.mem) :
    t.memValue = s.memValue := by
  funext a
  rw [memValue, memValue, isIO_eq h, h', h'']

@[simp] theorem jump_isIO (t : Addr) : (s.jump t).isIO = s.isIO := rfl
@[simp] theorem jump_stackAddr (t : Addr) : (s.jump t).stackAddr = s.stackAddr := rfl
@[simp] theorem jump_xyAddr (t : Addr) : (s.jump t).xyAddr = s.xyAddr := rfl
@[simp] theorem advance_isIO (n : Nat) : (s.advance n).isIO = s.isIO := rfl
@[simp] theorem advance_stackAddr (n : Nat) : (s.advance n).stackAddr = s.stackAddr := rfl
@[simp] theorem advance_xyAddr (n : Nat) : (s.advance n).xyAddr = s.xyAddr := rfl
@[simp] theorem setSR_isIO (v : Byte) : (s.setSR v).isIO = s.isIO := rfl
@[simp] theorem setSR_stackAddr (v : Byte) : (s.setSR v).stackAddr = s.stackAddr := rfl
@[simp] theorem setSR_xyAddr (v : Byte) : (s.setSR v).xyAddr = s.xyAddr := rfl
@[simp] theorem setFlags_isIO (r : AluOut) : (s.setFlags r).isIO = s.isIO := rfl
@[simp] theorem setFlags_stackAddr (r : AluOut) : (s.setFlags r).stackAddr = s.stackAddr := rfl
@[simp] theorem setFlags_xyAddr (r : AluOut) : (s.setFlags r).xyAddr = s.xyAddr := rfl
@[simp] theorem decSP_isIO : (s.decSP).isIO = s.isIO := rfl
@[simp] theorem decSP_xyAddr : (s.decSP).xyAddr = s.xyAddr := rfl
@[simp] theorem incSP_isIO : (s.incSP).isIO = s.isIO := rfl
@[simp] theorem incSP_xyAddr : (s.incSP).xyAddr = s.xyAddr := rfl
@[simp] theorem halt_isIO : (s.halt).isIO = s.isIO := rfl
@[simp] theorem halt_stackAddr : (s.halt).stackAddr = s.stackAddr := rfl
@[simp] theorem halt_xyAddr : (s.halt).xyAddr = s.xyAddr := rfl
@[simp] theorem noteRead_isIO (a : Addr) : (s.noteRead a).isIO = s.isIO := rfl
@[simp] theorem noteRead_stackAddr (a : Addr) : (s.noteRead a).stackAddr = s.stackAddr := rfl
@[simp] theorem noteRead_xyAddr (a : Addr) : (s.noteRead a).xyAddr = s.xyAddr := rfl
@[simp] theorem memWrite_isIO (a : Addr) (v : Byte) : (s.memWrite a v).isIO = s.isIO := rfl
@[simp] theorem memWrite_stackAddr (a : Addr) (v : Byte) : (s.memWrite a v).stackAddr = s.stackAddr := rfl
@[simp] theorem memWrite_xyAddr (a : Addr) (v : Byte) : (s.memWrite a v).xyAddr = s.xyAddr := rfl
@[simp] theorem push_isIO (v : Byte) : (s.push v).isIO = s.isIO := rfl
@[simp] theorem push_stackAddr (v : Byte) : (s.push v).stackAddr = s.decSP.stackAddr := rfl
@[simp] theorem push_xyAddr (v : Byte) : (s.push v).xyAddr = s.xyAddr := rfl
@[simp] theorem setReg_isIO (r : Reg) (v : Byte) : (s.setReg r v).isIO = s.isIO := isIO_eq (by simp)

/-! ### Reads -/

@[simp] theorem memRead_fst (a : Addr) : (s.memRead a).1 = s.memValue a := rfl
@[simp] theorem memRead_snd (a : Addr) : (s.memRead a).2 = s.noteRead a := rfl
@[simp] theorem pop_fst : s.pop.1 = s.memValue s.stackAddr := rfl
@[simp] theorem pop_snd : s.pop.2 = (s.noteRead s.stackAddr).incSP := rfl
@[simp] theorem readOp_reg (r : Reg) : s.readOp (.reg r) = (s.getReg r, s) := rfl
@[simp] theorem readOp_atSP : s.readOp .atSP = (s.memValue s.stackAddr, s.noteRead s.stackAddr) := rfl
@[simp] theorem readOp_atXY : s.readOp .atXY = (s.memValue s.xyAddr, s.noteRead s.xyAddr) := rfl
@[simp] theorem writeOp_reg (r : Reg) (v : Byte) : s.writeOp (.reg r) v = s.setReg r v := rfl
@[simp] theorem writeOp_atSP (v : Byte) : s.writeOp .atSP v = s.memWrite s.stackAddr v := rfl
@[simp] theorem writeOp_atXY (v : Byte) : s.writeOp .atXY v = s.memWrite s.xyAddr v := rfl

@[simp] theorem getReg_A : s.getReg .A = s.a := rfl
@[simp] theorem getReg_B : s.getReg .B = s.b := rfl
@[simp] theorem getReg_X : s.getReg .X = s.x := rfl
@[simp] theorem getReg_Y : s.getReg .Y = s.y := rfl
@[simp] theorem getReg_SP : s.getReg .SP = s.sp := rfl
@[simp] theorem getReg_SR : s.getReg .SR = s.sr := rfl

/-- A register written reads as written, every other as before. -/
@[simp] theorem getReg_setReg (r q : Reg) (v : Byte) : (s.setReg r v).getReg q = if q = r then v else s.getReg q := by
  cases r <;> cases q <;> rfl

end Sys2Proof.Machine.State
end

