-- ==== Sys2Proof/Laws/Memory.lean ====
section
/-! SUPPORT. The laws of memory: what a read gives after a write, and that every operation keeps the canonical form. -/

namespace Sys2Proof.Machine.Memory

/-! ### A read after a write -/

theorem lookup_insert_self (m : Memory) (n : Nat) (v : Byte) (h : ∀ c ∈ m, c.1 ≠ n) :
    lookup (insert m n v) n = v := by
  induction m with
  | nil => simp [insert, lookup]
  | cons c m ih =>
    have hc : c.1 ≠ n := h c (by simp)
    simp only [insert]
    split
    · simp [lookup]
    · simp only [lookup, if_neg hc]
      exact ih fun d hd => h d (by simp [hd])

theorem lookup_insert_of_ne (m : Memory) (n k : Nat) (v : Byte) (h : k ≠ n) :
    lookup (insert m n v) k = lookup m k := by
  induction m with
  | nil => simp [insert, lookup, h.symm]
  | cons c m ih =>
    simp only [insert]
    split
    · simp [lookup, h.symm]
    · simp only [lookup, ih]

theorem lookup_erase_self (m : Memory) (n : Nat) : lookup (erase m n) n = Config.unlistedByte := by
  induction m with
  | nil => rfl
  | cons c m ih =>
    by_cases hc : c.1 = n
    · simpa [erase, hc] using ih
    · simpa [erase, hc, lookup] using ih

theorem lookup_erase_of_ne (m : Memory) (n k : Nat) (h : k ≠ n) : lookup (erase m n) k = lookup m k := by
  induction m with
  | nil => rfl
  | cons c m ih =>
    by_cases hc : c.1 = n
    · have hk : c.1 ≠ k := fun e => h (e.symm.trans hc)
      simpa [erase, hc, lookup, hk, h.symm] using ih
    · by_cases hk : c.1 = k
      · simp [erase, lookup, hk, h]
      · simpa [erase, hc, lookup, hk] using ih

theorem mem_erase_ne (m : Memory) (n : Nat) : ∀ c ∈ erase m n, c.1 ≠ n := by
  intro c hc
  simpa using (List.mem_filter.mp hc).2

/-- `20_memory.md` R50: the cell written holds the byte, every other cell keeps its own. -/
theorem read_write (m : Memory) (a b : Addr) (v : Byte) :
    (m.write a v).read b = if b = a then v else m.read b := by
  by_cases hb : b = a
  · subst hb
    simp only [read, write, if_true]
    split
    · next hv => rw [lookup_erase_self, hv]
    · exact lookup_insert_self _ _ _ (mem_erase_ne _ _)
  · have hn : b.toNat ≠ a.toNat := fun e => hb (BitVec.eq_of_toNat_eq e)
    simp only [read, write, if_neg hb]
    split
    · exact lookup_erase_of_ne _ _ _ hn
    · rw [lookup_insert_of_ne _ _ _ _ hn, lookup_erase_of_ne _ _ _ hn]

@[simp] theorem read_write_self (m : Memory) (a : Addr) (v : Byte) : (m.write a v).read a = v := by
  rw [read_write, if_pos rfl]

theorem read_write_of_ne (m : Memory) {a b : Addr} (v : Byte) (h : b ≠ a) : (m.write a v).read b = m.read b := by
  rw [read_write, if_neg h]

/-! ### The canonical form -/

theorem wfAbove_cons (lo : Option Nat) (c : Host.Cell) (m : Memory) :
    wfAbove lo (c :: m) = true ↔
      (∀ l, lo = some l → l < c.1) ∧ c.1 < 65536 ∧ c.2 ≠ Config.unlistedByte ∧ wfAbove (some c.1) m = true := by
  cases lo <;> simp [wfAbove, and_assoc]

theorem wfAbove_mono {l k : Nat} (h : l ≤ k) (m : Memory) (hm : wfAbove (some k) m = true) :
    wfAbove (some l) m = true := by
  cases m with
  | nil => rfl
  | cons c m =>
    rw [wfAbove_cons] at hm ⊢
    refine ⟨?_, hm.2⟩
    intro j hj
    cases hj
    exact Nat.lt_of_le_of_lt h (hm.1 k rfl)

theorem wfAbove_none {l : Nat} (m : Memory) (hm : wfAbove (some l) m = true) : wfAbove none m = true := by
  cases m with
  | nil => rfl
  | cons c m =>
    rw [wfAbove_cons] at hm ⊢
    exact ⟨by simp, hm.2⟩

theorem wfAbove_erase (lo : Option Nat) (m : Memory) (n : Nat) (hm : wfAbove lo m = true) :
    wfAbove lo (erase m n) = true := by
  induction m generalizing lo with
  | nil => rfl
  | cons c m ih =>
    rw [wfAbove_cons] at hm
    have tail := ih (some c.1) hm.2.2.2
    by_cases hc : c.1 = n
    · have : erase (c :: m) n = erase m n := by simp [erase, hc]
      rw [this]
      cases lo with
      | none => exact wfAbove_none _ tail
      | some l => exact wfAbove_mono (Nat.le_of_lt (hm.1 l rfl)) _ tail
    · have : erase (c :: m) n = c :: erase m n := by simp [erase, hc]
      rw [this, wfAbove_cons]
      exact ⟨hm.1, hm.2.1, hm.2.2.1, tail⟩

theorem wfAbove_insert (lo : Option Nat) (m : Memory) (n : Nat) (v : Byte) (hn : n < 65536)
    (hv : v ≠ Config.unlistedByte) (hlo : ∀ l, lo = some l → l < n) (hne : ∀ c ∈ m, c.1 ≠ n)
    (hm : wfAbove lo m = true) : wfAbove lo (insert m n v) = true := by
  induction m generalizing lo with
  | nil => exact (wfAbove_cons _ _ _).mpr ⟨hlo, hn, hv, rfl⟩
  | cons c m ih =>
    have hm' := (wfAbove_cons _ _ _).mp hm
    have hc : c.1 ≠ n := hne c (by simp)
    simp only [insert]
    split
    · next hlt =>
      refine (wfAbove_cons _ _ _).mpr ⟨hlo, hn, hv, (wfAbove_cons _ _ _).mpr ⟨?_, hm'.2⟩⟩
      intro l hl
      cases hl
      exact hlt
    · next hge =>
      refine (wfAbove_cons _ _ _).mpr ⟨hm'.1, hm'.2.1, hm'.2.2.1, ?_⟩
      refine ih (some c.1) ?_ (fun d hd => hne d (by simp [hd])) hm'.2.2.2
      intro l hl
      cases hl
      exact Nat.lt_of_le_of_ne (Nat.le_of_not_lt hge) hc

/-- Every write keeps the canonical form. -/
theorem wf_write (m : Memory) (a : Addr) (v : Byte) (hm : m.wf = true) : (m.write a v).wf = true := by
  unfold wf write at *
  split
  · exact wfAbove_erase _ _ _ hm
  · next hv =>
    exact wfAbove_insert _ _ _ _ a.isLt hv (by simp) (mem_erase_ne _ _) (wfAbove_erase _ _ _ hm)

/-- Placing bytes keeps the canonical form. -/
theorem wf_storeBytes (m : Memory) (a : Addr) (vs : List Byte) (hm : m.wf = true) :
    (State.storeBytes m a vs).wf = true := by
  induction vs generalizing m a with
  | nil => exact hm
  | cons v vs ih => exact ih _ _ (wf_write m a v hm)

/-- `MemWrite` keeps the canonical form, a write to an extension card too. -/
theorem wf_memWrite (s : State) (a : Addr) (v : Byte) (hs : s.mem.wf = true) : (s.memWrite a v).mem.wf = true := by
  rw [State.memWrite_mem]
  cases s.isIO a
  · exact wf_write _ _ _ hs
  · exact hs

/-- The memory of the state after reset is in canonical form. -/
theorem wf_reset : State.reset.mem.wf = true := rfl

end Sys2Proof.Machine.Memory
end

