-- ==== Sys2Proof/Laws/Ops.lean ====
section
/-! SUPPORT. What each shared operation of the machine can do, said once. -/

namespace Sys2Proof.Machine

/-! ### Addresses -/

theorem joinBytes_toNat (hi lo : Byte) : (joinBytes hi lo).toNat = hi.toNat * 256 + lo.toNat := by
  have := lo.isLt
  unfold joinBytes
  rw [BitVec.toNat_append, Nat.shiftLeft_eq, ← Nat.shiftLeft_eq, ← Nat.shiftLeft_add_eq_or_of_lt this, Nat.shiftLeft_eq]

theorem getLsbD_joinBytes (hi lo : Byte) (k : Nat) :
    (joinBytes hi lo).getLsbD k = if k < 8 then lo.getLsbD k else hi.getLsbD (k - 8) :=
  BitVec.getLsbD_append (x := hi) (y := lo) (i := k)

@[simp] theorem lowByte_joinBytes (hi lo : Byte) : lowByte (joinBytes hi lo) = lo := by
  apply BitVec.eq_of_getLsbD_eq
  intro k hk
  rw [lowByte, BitVec.getLsbD_extractLsb', getLsbD_joinBytes]
  simp [hk]

@[simp] theorem highByte_joinBytes (hi lo : Byte) : highByte (joinBytes hi lo) = hi := by
  apply BitVec.eq_of_getLsbD_eq
  intro k hk
  rw [highByte, BitVec.getLsbD_extractLsb', getLsbD_joinBytes]
  simp [hk]

@[simp] theorem joinBytes_high_low (v : Addr) : joinBytes (highByte v) (lowByte v) = v := by
  apply BitVec.eq_of_getLsbD_eq
  intro k hk
  rw [getLsbD_joinBytes, lowByte, highByte, BitVec.getLsbD_extractLsb', BitVec.getLsbD_extractLsb']
  by_cases h : k < 8
  · simp [h]
  · simp [h, show k - 8 < 8 by omega, show 8 + (k - 8) = k by omega]

theorem joinBytes_inj {hi lo hi' lo' : Byte} (h : joinBytes hi lo = joinBytes hi' lo') : hi = hi' ∧ lo = lo' :=
  ⟨by rw [← highByte_joinBytes hi lo, h, highByte_joinBytes], by rw [← lowByte_joinBytes hi lo, h, lowByte_joinBytes]⟩

/-! ### Memory accesses at the state -/

namespace State

variable (s : State)

/-- A read of a cell gives its byte and changes nothing (`20_memory.md` R59). -/
theorem memRead_of_cell {a : Addr} (h : s.isIO a = false) : s.memRead a = (s.mem.read a, s) := by
  simp [memRead, memValue, noteRead, h]

/-- A read of an `IO_REGION` address gives the environment's answer and is counted (`20_memory.md` R63). -/
theorem memRead_of_io {a : Addr} (h : s.isIO a = true) :
    s.memRead a = (Config.ioAnswer s.busReads a, { s with busReads := s.busReads + 1 }) := by
  simp [memRead, memValue, noteRead, h]

/-- `MemWrite` stores the one byte. -/
theorem memWrite_storedByte (a : Addr) (v : Byte) : StoredByte s (s.memWrite a v) a v := by
  constructor
  · intro h
    refine ⟨by simp [h], by simp [h], fun b hb => ?_⟩
    simp [h, Memory.read_write_of_ne _ _ hb]
  · intro h
    simp [h]

/-- `MemWrite` changes nothing but the memory and the bus events. -/
theorem memWrite_frame (a : Addr) (v : Byte) :
    s.memWrite a v = { s with mem := (s.memWrite a v).mem, busWrites := (s.memWrite a v).busWrites } := rfl

/-- `Push(v)` lowers SP by one and stores the byte at the new stack address (`43_stack_procedures.md` R190). -/
theorem push_storedByte (v : Byte) : StoredByte s (s.push v) s.decSP.stackAddr v :=
  memWrite_storedByte s.decSP s.decSP.stackAddr v

/-- `Push` changes nothing but SP, the memory and the bus events. -/
theorem push_frame (v : Byte) :
    s.push v = { s with sp := s.sp - 1, mem := (s.push v).mem, busWrites := (s.push v).busWrites } := rfl

/-- `Pop()` gives the byte at the stack address and raises SP by one (`43_stack_procedures.md` R191). -/
theorem pop_eq : s.pop =
    (s.memValue s.stackAddr, { s with sp := s.sp + 1, busReads := s.busReads + (s.isIO s.stackAddr).toNat }) := rfl

end State

/-- `StoredByte` looks at the extension bus and the memory only. -/
theorem storedByte_congr {s s' t t' : State} {adr : Addr} {v : Byte} (h : StoredByte s t adr v)
    (hp : s'.params = s.params) (hm : s'.mem = s.mem) (hb : s'.busWrites = s.busWrites)
    (hm' : t'.mem = t.mem) (hb' : t'.busWrites = t.busWrites) : StoredByte s' t' adr v := by
  unfold StoredByte at *
  rw [State.isIO_eq hp, hm, hb, hm', hb']
  exact h

/-! ### Flags -/

theorem getLsbD_ofBits (b7 b6 b5 b4 b3 b2 b1 b0 : Bool) (k : Nat) :
    (ofBits b7 b6 b5 b4 b3 b2 b1 b0).getLsbD k = [b0, b1, b2, b3, b4, b5, b6, b7].getD k false := by
  have := BitVec.getLsbD_ofBoolListBE (bs := [b7, b6, b5, b4, b3, b2, b1, b0]) (i := k)
  rw [ofBits, this]
  by_cases h : k < 8
  · interval_cases k <;> rfl
  · simp [h]

@[simp] theorem withFlags_bit0 (sr : Byte) (r : AluOut) : (withFlags sr r)[0] = r.c := getLsbD_ofBits _ _ _ _ _ _ _ _ 0
@[simp] theorem withFlags_bit1 (sr : Byte) (r : AluOut) : (withFlags sr r)[1] = r.z := getLsbD_ofBits _ _ _ _ _ _ _ _ 1
@[simp] theorem withFlags_bit2 (sr : Byte) (r : AluOut) : (withFlags sr r)[2] = r.s := getLsbD_ofBits _ _ _ _ _ _ _ _ 2
@[simp] theorem withFlags_bit3 (sr : Byte) (r : AluOut) : (withFlags sr r)[3] = r.o := getLsbD_ofBits _ _ _ _ _ _ _ _ 3
@[simp] theorem withFlags_bit4 (sr : Byte) (r : AluOut) : (withFlags sr r)[4] = sr[4] := getLsbD_ofBits _ _ _ _ _ _ _ _ 4
@[simp] theorem withFlags_bit5 (sr : Byte) (r : AluOut) : (withFlags sr r)[5] = sr[5] := getLsbD_ofBits _ _ _ _ _ _ _ _ 5
@[simp] theorem withFlags_bit6 (sr : Byte) (r : AluOut) : (withFlags sr r)[6] = sr[6] := getLsbD_ofBits _ _ _ _ _ _ _ _ 6
@[simp] theorem withFlags_bit7 (sr : Byte) (r : AluOut) : (withFlags sr r)[7] = sr[7] := getLsbD_ofBits _ _ _ _ _ _ _ _ 7

@[simp] theorem withCF_bit0 (sr : Byte) (v : Bool) : (withCF sr v)[0] = v := getLsbD_ofBits _ _ _ _ _ _ _ _ 0
@[simp] theorem withCF_bit1 (sr : Byte) (v : Bool) : (withCF sr v)[1] = sr[1] := getLsbD_ofBits _ _ _ _ _ _ _ _ 1
@[simp] theorem withCF_bit2 (sr : Byte) (v : Bool) : (withCF sr v)[2] = sr[2] := getLsbD_ofBits _ _ _ _ _ _ _ _ 2
@[simp] theorem withCF_bit3 (sr : Byte) (v : Bool) : (withCF sr v)[3] = sr[3] := getLsbD_ofBits _ _ _ _ _ _ _ _ 3
@[simp] theorem withCF_bit4 (sr : Byte) (v : Bool) : (withCF sr v)[4] = sr[4] := getLsbD_ofBits _ _ _ _ _ _ _ _ 4
@[simp] theorem withCF_bit5 (sr : Byte) (v : Bool) : (withCF sr v)[5] = sr[5] := getLsbD_ofBits _ _ _ _ _ _ _ _ 5
@[simp] theorem withCF_bit6 (sr : Byte) (v : Bool) : (withCF sr v)[6] = sr[6] := getLsbD_ofBits _ _ _ _ _ _ _ _ 6
@[simp] theorem withCF_bit7 (sr : Byte) (v : Bool) : (withCF sr v)[7] = sr[7] := getLsbD_ofBits _ _ _ _ _ _ _ _ 7

@[simp] theorem withOF_bit0 (sr : Byte) (v : Bool) : (withOF sr v)[0] = sr[0] := getLsbD_ofBits _ _ _ _ _ _ _ _ 0
@[simp] theorem withOF_bit1 (sr : Byte) (v : Bool) : (withOF sr v)[1] = sr[1] := getLsbD_ofBits _ _ _ _ _ _ _ _ 1
@[simp] theorem withOF_bit2 (sr : Byte) (v : Bool) : (withOF sr v)[2] = sr[2] := getLsbD_ofBits _ _ _ _ _ _ _ _ 2
@[simp] theorem withOF_bit3 (sr : Byte) (v : Bool) : (withOF sr v)[3] = v := getLsbD_ofBits _ _ _ _ _ _ _ _ 3
@[simp] theorem withOF_bit4 (sr : Byte) (v : Bool) : (withOF sr v)[4] = sr[4] := getLsbD_ofBits _ _ _ _ _ _ _ _ 4
@[simp] theorem withOF_bit5 (sr : Byte) (v : Bool) : (withOF sr v)[5] = sr[5] := getLsbD_ofBits _ _ _ _ _ _ _ _ 5
@[simp] theorem withOF_bit6 (sr : Byte) (v : Bool) : (withOF sr v)[6] = sr[6] := getLsbD_ofBits _ _ _ _ _ _ _ _ 6
@[simp] theorem withOF_bit7 (sr : Byte) (v : Bool) : (withOF sr v)[7] = sr[7] := getLsbD_ofBits _ _ _ _ _ _ _ _ 7

@[simp] theorem withIE_bit0 (sr : Byte) (v : Bool) : (withIE sr v)[0] = sr[0] := getLsbD_ofBits _ _ _ _ _ _ _ _ 0
@[simp] theorem withIE_bit1 (sr : Byte) (v : Bool) : (withIE sr v)[1] = sr[1] := getLsbD_ofBits _ _ _ _ _ _ _ _ 1
@[simp] theorem withIE_bit2 (sr : Byte) (v : Bool) : (withIE sr v)[2] = sr[2] := getLsbD_ofBits _ _ _ _ _ _ _ _ 2
@[simp] theorem withIE_bit3 (sr : Byte) (v : Bool) : (withIE sr v)[3] = sr[3] := getLsbD_ofBits _ _ _ _ _ _ _ _ 3
@[simp] theorem withIE_bit4 (sr : Byte) (v : Bool) : (withIE sr v)[4] = sr[4] := getLsbD_ofBits _ _ _ _ _ _ _ _ 4
@[simp] theorem withIE_bit5 (sr : Byte) (v : Bool) : (withIE sr v)[5] = sr[5] := getLsbD_ofBits _ _ _ _ _ _ _ _ 5
@[simp] theorem withIE_bit6 (sr : Byte) (v : Bool) : (withIE sr v)[6] = sr[6] := getLsbD_ofBits _ _ _ _ _ _ _ _ 6
@[simp] theorem withIE_bit7 (sr : Byte) (v : Bool) : (withIE sr v)[7] = v := getLsbD_ofBits _ _ _ _ _ _ _ _ 7

/-- `SetFlags` writes the four flags and keeps bits 7 to 4 (`42_alu.md` R150). -/
theorem withFlags_flagsWritten (sr : Byte) (r : AluOut) : FlagsWritten sr (withFlags sr r) r.c r.z r.s r.o := by
  simp [FlagsWritten]

end Sys2Proof.Machine
end

