-- ==== Sys2Proof/Laws/PerInstr.lean ====
section
/-! SUPPORT. What is said of each instruction as syntax, one lemma per constructor. -/

/-- The bytes of the instruction are one well-formed instruction: its opcode byte is assigned and its length is the one
`30_encoding.md` R81 gives that byte. -/
def Sys2Proof.Laws.EncodedLength.Statement (i : Sys2Proof.Instr) : Prop :=
  Sys2Proof.wellFormedBytes (Sys2Proof.encode i) = true

namespace Sys2Proof.Laws.EncodedLength

theorem movAToB : Statement .movAToB := rfl
theorem movAToX : Statement .movAToX := rfl
theorem movAToY : Statement .movAToY := rfl
theorem movAToSP : Statement .movAToSP := rfl
theorem movAToSR : Statement .movAToSR := rfl
theorem movBToA : Statement .movBToA := rfl
theorem movBToX : Statement .movBToX := rfl
theorem movBToY : Statement .movBToY := rfl
theorem movBToSP : Statement .movBToSP := rfl
theorem movBToSR : Statement .movBToSR := rfl
theorem movXToA : Statement .movXToA := rfl
theorem movXToB : Statement .movXToB := rfl
theorem movYToA : Statement .movYToA := rfl
theorem movYToB : Statement .movYToB := rfl
theorem movSPToA : Statement .movSPToA := rfl
theorem movSRToA : Statement .movSRToA := rfl
theorem movAToImm (imm : Byte) : Statement (.movAToImm imm) := rfl
theorem movBToImm (imm : Byte) : Statement (.movBToImm imm) := rfl
theorem movXToImm (imm : Byte) : Statement (.movXToImm imm) := rfl
theorem movYToImm (imm : Byte) : Statement (.movYToImm imm) := rfl
theorem movSPToImm (imm : Byte) : Statement (.movSPToImm imm) := rfl
theorem movSRToImm (imm : Byte) : Statement (.movSRToImm imm) := rfl
theorem movAtSPToImm (imm : Byte) : Statement (.movAtSPToImm imm) := rfl
theorem movAtXYToImm (imm : Byte) : Statement (.movAtXYToImm imm) := rfl
theorem movImmToA (imm : Byte) : Statement (.movImmToA imm) := rfl
theorem movImmToB (imm : Byte) : Statement (.movImmToB imm) := rfl
theorem movImmToX (imm : Byte) : Statement (.movImmToX imm) := rfl
theorem movImmToY (imm : Byte) : Statement (.movImmToY imm) := rfl
theorem movImmToSP (imm : Byte) : Statement (.movImmToSP imm) := rfl
theorem movImmToSR (imm : Byte) : Statement (.movImmToSR imm) := rfl
theorem movImmToAtSP (imm : Byte) : Statement (.movImmToAtSP imm) := rfl
theorem movImmToAtXY (imm : Byte) : Statement (.movImmToAtXY imm) := rfl
theorem movAToMem (adr : Addr) : Statement (.movAToMem adr) := rfl
theorem movBToMem (adr : Addr) : Statement (.movBToMem adr) := rfl
theorem movXToMem (adr : Addr) : Statement (.movXToMem adr) := rfl
theorem movYToMem (adr : Addr) : Statement (.movYToMem adr) := rfl
theorem movSPToMem (adr : Addr) : Statement (.movSPToMem adr) := rfl
theorem movSRToMem (adr : Addr) : Statement (.movSRToMem adr) := rfl
theorem movAtSPToMem (adr : Addr) : Statement (.movAtSPToMem adr) := rfl
theorem movAtXYToMem (adr : Addr) : Statement (.movAtXYToMem adr) := rfl
theorem movMemToA (adr : Addr) : Statement (.movMemToA adr) := rfl
theorem movMemToB (adr : Addr) : Statement (.movMemToB adr) := rfl
theorem movMemToX (adr : Addr) : Statement (.movMemToX adr) := rfl
theorem movMemToY (adr : Addr) : Statement (.movMemToY adr) := rfl
theorem movMemToSP (adr : Addr) : Statement (.movMemToSP adr) := rfl
theorem movMemToSR (adr : Addr) : Statement (.movMemToSR adr) := rfl
theorem movMemToAtSP (adr : Addr) : Statement (.movMemToAtSP adr) := rfl
theorem movMemToAtXY (adr : Addr) : Statement (.movMemToAtXY adr) := rfl
theorem pushA : Statement .pushA := rfl
theorem pushB : Statement .pushB := rfl
theorem pushX : Statement .pushX := rfl
theorem pushY : Statement .pushY := rfl
theorem pushImm (imm : Byte) : Statement (.pushImm imm) := rfl
theorem pushSR : Statement .pushSR := rfl
theorem pushMem (adr : Addr) : Statement (.pushMem adr) := rfl
theorem pushAtXY : Statement .pushAtXY := rfl
theorem popA : Statement .popA := rfl
theorem popB : Statement .popB := rfl
theorem popX : Statement .popX := rfl
theorem popY : Statement .popY := rfl
theorem popSR : Statement .popSR := rfl
theorem popMem (adr : Addr) : Statement (.popMem adr) := rfl
theorem popAtXY : Statement .popAtXY := rfl
theorem addA : Statement .addA := rfl
theorem addB : Statement .addB := rfl
theorem addX : Statement .addX := rfl
theorem addY : Statement .addY := rfl
theorem addSP : Statement .addSP := rfl
theorem addMem (adr : Addr) : Statement (.addMem adr) := rfl
theorem addAtSP : Statement .addAtSP := rfl
theorem addAtXY : Statement .addAtXY := rfl
theorem subA : Statement .subA := rfl
theorem subB : Statement .subB := rfl
theorem subX : Statement .subX := rfl
theorem subY : Statement .subY := rfl
theorem subSP : Statement .subSP := rfl
theorem subMem (adr : Addr) : Statement (.subMem adr) := rfl
theorem subAtSP : Statement .subAtSP := rfl
theorem subAtXY : Statement .subAtXY := rfl
theorem adcA : Statement .adcA := rfl
theorem adcB : Statement .adcB := rfl
theorem adcX : Statement .adcX := rfl
theorem adcY : Statement .adcY := rfl
theorem adcSP : Statement .adcSP := rfl
theorem adcMem (adr : Addr) : Statement (.adcMem adr) := rfl
theorem adcAtSP : Statement .adcAtSP := rfl
theorem adcAtXY : Statement .adcAtXY := rfl
theorem lshA : Statement .lshA := rfl
theorem lshB : Statement .lshB := rfl
theorem lshX : Statement .lshX := rfl
theorem lshY : Statement .lshY := rfl
theorem lshSP : Statement .lshSP := rfl
theorem lshMem (adr : Addr) : Statement (.lshMem adr) := rfl
theorem lshAtSP : Statement .lshAtSP := rfl
theorem lshAtXY : Statement .lshAtXY := rfl
theorem rshA : Statement .rshA := rfl
theorem rshB : Statement .rshB := rfl
theorem rshX : Statement .rshX := rfl
theorem rshY : Statement .rshY := rfl
theorem rshSP : Statement .rshSP := rfl
theorem rshMem (adr : Addr) : Statement (.rshMem adr) := rfl
theorem rshAtSP : Statement .rshAtSP := rfl
theorem rshAtXY : Statement .rshAtXY := rfl
theorem orA : Statement .orA := rfl
theorem orB : Statement .orB := rfl
theorem orX : Statement .orX := rfl
theorem orY : Statement .orY := rfl
theorem orSP : Statement .orSP := rfl
theorem orMem (adr : Addr) : Statement (.orMem adr) := rfl
theorem orAtSP : Statement .orAtSP := rfl
theorem orAtXY : Statement .orAtXY := rfl
theorem andA : Statement .andA := rfl
theorem andB : Statement .andB := rfl
theorem andX : Statement .andX := rfl
theorem andY : Statement .andY := rfl
theorem andSP : Statement .andSP := rfl
theorem andMem (adr : Addr) : Statement (.andMem adr) := rfl
theorem andAtSP : Statement .andAtSP := rfl
theorem andAtXY : Statement .andAtXY := rfl
theorem xorA : Statement .xorA := rfl
theorem xorB : Statement .xorB := rfl
theorem xorX : Statement .xorX := rfl
theorem xorY : Statement .xorY := rfl
theorem xorSP : Statement .xorSP := rfl
theorem xorMem (adr : Addr) : Statement (.xorMem adr) := rfl
theorem xorAtSP : Statement .xorAtSP := rfl
theorem xorAtXY : Statement .xorAtXY := rfl
theorem cmp : Statement .cmp := rfl
theorem inc : Statement .inc := rfl
theorem dec : Statement .dec := rfl
theorem call (adr : Addr) : Statement (.call adr) := rfl
theorem ret : Statement .ret := rfl
theorem jmp (adr : Addr) : Statement (.jmp adr) := rfl
theorem jo (adr : Addr) : Statement (.jo adr) := rfl
theorem jno (adr : Addr) : Statement (.jno adr) := rfl
theorem js (adr : Addr) : Statement (.js adr) := rfl
theorem jns (adr : Addr) : Statement (.jns adr) := rfl
theorem je (adr : Addr) : Statement (.je adr) := rfl
theorem jne (adr : Addr) : Statement (.jne adr) := rfl
theorem jb (adr : Addr) : Statement (.jb adr) := rfl
theorem jnb (adr : Addr) : Statement (.jnb adr) := rfl
theorem jbe (adr : Addr) : Statement (.jbe adr) := rfl
theorem ja (adr : Addr) : Statement (.ja adr) := rfl
theorem jl (adr : Addr) : Statement (.jl adr) := rfl
theorem jge (adr : Addr) : Statement (.jge adr) := rfl
theorem jle (adr : Addr) : Statement (.jle adr) := rfl
theorem jg (adr : Addr) : Statement (.jg adr) := rfl
theorem clc : Statement .clc := rfl
theorem sec : Statement .sec := rfl
theorem clo : Statement .clo := rfl
theorem seo : Statement .seo := rfl
theorem hlt : Statement .hlt := rfl

end Sys2Proof.Laws.EncodedLength
end

