-- ==== Sys2Proof/Laws/Step.lean ====
section
/-! SUPPORT. What a fetch and a step can do, said once. -/

namespace Sys2Proof.Machine

namespace State

/-- Reading bytes changes only the count of answered bus reads. -/
theorem readBytes_frame (s : State) (a : Addr) (n : Nat) :
    (s.readBytes a n).2 = { s with busReads := (s.readBytes a n).2.busReads } := by
  induction n generalizing s a with
  | zero => rfl
  | succ n ih => exact ih (s.noteRead a) (a + 1)

/-- Reading bytes of cells changes nothing. -/
theorem readBytes_of_cells (s : State) (a : Addr) (n : Nat)
    (h : ∀ k, k < n → s.isIO (a + BitVec.ofNat 16 k) = false) : (s.readBytes a n).2 = s := by
  induction n generalizing a with
  | zero => rfl
  | succ n ih =>
    have h0 : s.isIO a = false := by simpa using h 0 (by omega)
    simp only [readBytes, memRead_of_cell s h0]
    refine ih (a + 1) fun k hk => ?_
    have : a + 1 + BitVec.ofNat 16 k = a + BitVec.ofNat 16 (k + 1) := by
      rw [BitVec.ofNat_add, BitVec.add_comm (BitVec.ofNat 16 k), ← BitVec.add_assoc]
      rfl
    rw [this]
    exact h (k + 1) (by omega)

/-- A fetch that gives an instruction changes only the count of answered bus reads. -/
theorem fetch_frame {s t : State} {i : Instr} (h : s.fetch = .ok (i, t)) :
    t = { s with busReads := t.busReads } := by
  unfold fetch at h
  simp only [memRead] at h
  split at h <;> cases h <;> rfl

/-- A fetch fails exactly with the opcode byte of a blank row. -/
theorem fetch_error {s : State} {op : Byte} (h : s.fetch = .error op) : op = s.memValue s.pc := by
  unfold fetch at h
  simp only [memRead] at h
  split at h <;> cases h
  rfl

end State

/-- A step answers a next state in two ways only: the processor is halted and stays, or the fetched instruction
answers it. -/
theorem step_next {s t : State} (h : step s = .next t) :
    (s.halted = true ∧ t = s) ∨ (s.halted = false ∧ ∃ i u, s.fetch = .ok (i, u) ∧ exec i u = .next t) := by
  unfold step at h
  split at h
  · next hh => exact .inl ⟨hh, by cases h; rfl⟩
  · next hh =>
    split at h
    · cases h
    · next i u hf => exact .inr ⟨by simpa using hh, i, u, hf, h⟩

end Sys2Proof.Machine
end

