-- ==== Sys2Proof/Tests/Slice0.lean ====
section
/-! SUPPORT. The model's own tests. Expected values are those of `95_test_vectors.md`, hand-derived there from the
rules; the words of the decode tests are the rows of its section 1, the operand bytes chosen here. -/

namespace Sys2Proof.Tests

open Sys2Proof Sys2Proof.Machine

/-! ### WellFormed: what the check refuses -/

theorem test_wf_refuses_no_bytes : wellFormedBytes [] = false := by decide
theorem test_wf_refuses_blank_opcodes :
    [0x3C, 0x83, 0xBF, 0xC2, 0xCF, 0xDF, 0xEF, 0xF4, 0xFE].map (fun op : Byte => wellFormedBytes [op]) =
      List.replicate 9 false := by decide
theorem test_wf_refuses_missing_immediate : wellFormedBytes [0x18] = false := by decide
theorem test_wf_refuses_missing_address_byte : wellFormedBytes [0xD0, 0x34] = false := by decide
theorem test_wf_refuses_byte_too_many : wellFormedBytes [0x00, 0x00] = false := by decide
theorem test_wf_accepts_each_length :
    wellFormedBytes [0x00] = true ∧ wellFormedBytes [0x18, 0x05] = true ∧ wellFormedBytes [0xD0, 0x34, 0x12] = true := by
  decide

/-! ### Decode: every constructor from a word written out, opcode bits first -/

/-- Opcode bytes 0x00 to 0x0F. -/
theorem test_decode_0x : [
      decode [0b00000000], decode [0b00000001], decode [0b00000010], decode [0b00000011], decode [0b00000100],
      decode [0b00000101], decode [0b00000110], decode [0b00000111], decode [0b00001000], decode [0b00001001],
      decode [0b00001010], decode [0b00001011], decode [0b00001100], decode [0b00001101], decode [0b00001110],
      decode [0b00001111]] = [
      .ok (.movAToB, []), .ok (.movAToX, []), .ok (.movAToY, []), .ok (.movAToSP, []), .ok (.movAToSR, []),
      .ok (.movBToA, []), .ok (.movBToX, []), .ok (.movBToY, []), .ok (.movBToSP, []), .ok (.movBToSR, []),
      .ok (.movXToA, []), .ok (.movXToB, []), .ok (.movYToA, []), .ok (.movYToB, []), .ok (.movSPToA, []),
      .ok (.movSRToA, [])] := rfl

/-- Opcode bytes 0x10 to 0x1F. -/
theorem test_decode_1x : [
      decode [0b00010000, 0xA5], decode [0b00010001, 0xA5], decode [0b00010010, 0xA5], decode [0b00010011, 0xA5],
      decode [0b00010100, 0xA5], decode [0b00010101, 0xA5], decode [0b00010110, 0xA5], decode [0b00010111, 0xA5],
      decode [0b00011000, 0xA5], decode [0b00011001, 0xA5], decode [0b00011010, 0xA5], decode [0b00011011, 0xA5],
      decode [0b00011100, 0xA5], decode [0b00011101, 0xA5], decode [0b00011110, 0xA5], decode [0b00011111, 0xA5]] = [
      .ok (.movAToImm 0xA5, []), .ok (.movBToImm 0xA5, []), .ok (.movXToImm 0xA5, []), .ok (.movYToImm 0xA5, []),
      .ok (.movSPToImm 0xA5, []), .ok (.movSRToImm 0xA5, []), .ok (.movAtSPToImm 0xA5, []),
      .ok (.movAtXYToImm 0xA5, []), .ok (.movImmToA 0xA5, []), .ok (.movImmToB 0xA5, []), .ok (.movImmToX 0xA5, []),
      .ok (.movImmToY 0xA5, []), .ok (.movImmToSP 0xA5, []), .ok (.movImmToSR 0xA5, []),
      .ok (.movImmToAtSP 0xA5, []), .ok (.movImmToAtXY 0xA5, [])] := rfl

/-- Opcode bytes 0x20 to 0x2F. -/
theorem test_decode_2x : [
      decode [0b00100000, 0x34, 0x12], decode [0b00100001, 0x34, 0x12], decode [0b00100010, 0x34, 0x12],
      decode [0b00100011, 0x34, 0x12], decode [0b00100100, 0x34, 0x12], decode [0b00100101, 0x34, 0x12],
      decode [0b00100110, 0x34, 0x12], decode [0b00100111, 0x34, 0x12], decode [0b00101000, 0x34, 0x12],
      decode [0b00101001, 0x34, 0x12], decode [0b00101010, 0x34, 0x12], decode [0b00101011, 0x34, 0x12],
      decode [0b00101100, 0x34, 0x12], decode [0b00101101, 0x34, 0x12], decode [0b00101110, 0x34, 0x12],
      decode [0b00101111, 0x34, 0x12]] = [
      .ok (.movAToMem 0x1234, []), .ok (.movBToMem 0x1234, []), .ok (.movXToMem 0x1234, []),
      .ok (.movYToMem 0x1234, []), .ok (.movSPToMem 0x1234, []), .ok (.movSRToMem 0x1234, []),
      .ok (.movAtSPToMem 0x1234, []), .ok (.movAtXYToMem 0x1234, []), .ok (.movMemToA 0x1234, []),
      .ok (.movMemToB 0x1234, []), .ok (.movMemToX 0x1234, []), .ok (.movMemToY 0x1234, []),
      .ok (.movMemToSP 0x1234, []), .ok (.movMemToSR 0x1234, []), .ok (.movMemToAtSP 0x1234, []),
      .ok (.movMemToAtXY 0x1234, [])] := rfl

/-- Opcode bytes 0x30 to 0x3F. -/
theorem test_decode_3x : [
      decode [0b00110000], decode [0b00110001], decode [0b00110010], decode [0b00110011], decode [0b00110100, 0xA5],
      decode [0b00110101], decode [0b00110110, 0x34, 0x12], decode [0b00110111], decode [0b00111000],
      decode [0b00111001], decode [0b00111010], decode [0b00111011], decode [0b00111101],
      decode [0b00111110, 0x34, 0x12], decode [0b00111111]] = [
      .ok (.pushA, []), .ok (.pushB, []), .ok (.pushX, []), .ok (.pushY, []), .ok (.pushImm 0xA5, []),
      .ok (.pushSR, []), .ok (.pushMem 0x1234, []), .ok (.pushAtXY, []), .ok (.popA, []), .ok (.popB, []),
      .ok (.popX, []), .ok (.popY, []), .ok (.popSR, []), .ok (.popMem 0x1234, []), .ok (.popAtXY, [])] := rfl

/-- Opcode bytes 0x40 to 0x4F. -/
theorem test_decode_4x : [
      decode [0b01000000], decode [0b01000001], decode [0b01000010], decode [0b01000011], decode [0b01000100],
      decode [0b01000101, 0x34, 0x12], decode [0b01000110], decode [0b01000111], decode [0b01001000],
      decode [0b01001001], decode [0b01001010], decode [0b01001011], decode [0b01001100],
      decode [0b01001101, 0x34, 0x12], decode [0b01001110], decode [0b01001111]] = [
      .ok (.addA, []), .ok (.addB, []), .ok (.addX, []), .ok (.addY, []), .ok (.addSP, []),
      .ok (.addMem 0x1234, []), .ok (.addAtSP, []), .ok (.addAtXY, []), .ok (.subA, []), .ok (.subB, []),
      .ok (.subX, []), .ok (.subY, []), .ok (.subSP, []), .ok (.subMem 0x1234, []), .ok (.subAtSP, []),
      .ok (.subAtXY, [])] := rfl

/-- Opcode bytes 0x50 to 0x5F. -/
theorem test_decode_5x : [
      decode [0b01010000], decode [0b01010001], decode [0b01010010], decode [0b01010011], decode [0b01010100],
      decode [0b01010101, 0x34, 0x12], decode [0b01010110], decode [0b01010111], decode [0b01011000],
      decode [0b01011001], decode [0b01011010], decode [0b01011011], decode [0b01011100],
      decode [0b01011101, 0x34, 0x12], decode [0b01011110], decode [0b01011111]] = [
      .ok (.adcA, []), .ok (.adcB, []), .ok (.adcX, []), .ok (.adcY, []), .ok (.adcSP, []),
      .ok (.adcMem 0x1234, []), .ok (.adcAtSP, []), .ok (.adcAtXY, []), .ok (.lshA, []), .ok (.lshB, []),
      .ok (.lshX, []), .ok (.lshY, []), .ok (.lshSP, []), .ok (.lshMem 0x1234, []), .ok (.lshAtSP, []),
      .ok (.lshAtXY, [])] := rfl

/-- Opcode bytes 0x60 to 0x6F. -/
theorem test_decode_6x : [
      decode [0b01100000], decode [0b01100001], decode [0b01100010], decode [0b01100011], decode [0b01100100],
      decode [0b01100101, 0x34, 0x12], decode [0b01100110], decode [0b01100111], decode [0b01101000],
      decode [0b01101001], decode [0b01101010], decode [0b01101011], decode [0b01101100],
      decode [0b01101101, 0x34, 0x12], decode [0b01101110], decode [0b01101111]] = [
      .ok (.rshA, []), .ok (.rshB, []), .ok (.rshX, []), .ok (.rshY, []), .ok (.rshSP, []),
      .ok (.rshMem 0x1234, []), .ok (.rshAtSP, []), .ok (.rshAtXY, []), .ok (.orA, []), .ok (.orB, []),
      .ok (.orX, []), .ok (.orY, []), .ok (.orSP, []), .ok (.orMem 0x1234, []), .ok (.orAtSP, []), .ok (.orAtXY, [])] := rfl

/-- Opcode bytes 0x70 to 0x7F. -/
theorem test_decode_7x : [
      decode [0b01110000], decode [0b01110001], decode [0b01110010], decode [0b01110011], decode [0b01110100],
      decode [0b01110101, 0x34, 0x12], decode [0b01110110], decode [0b01110111], decode [0b01111000],
      decode [0b01111001], decode [0b01111010], decode [0b01111011], decode [0b01111100],
      decode [0b01111101, 0x34, 0x12], decode [0b01111110], decode [0b01111111]] = [
      .ok (.andA, []), .ok (.andB, []), .ok (.andX, []), .ok (.andY, []), .ok (.andSP, []),
      .ok (.andMem 0x1234, []), .ok (.andAtSP, []), .ok (.andAtXY, []), .ok (.xorA, []), .ok (.xorB, []),
      .ok (.xorX, []), .ok (.xorY, []), .ok (.xorSP, []), .ok (.xorMem 0x1234, []), .ok (.xorAtSP, []),
      .ok (.xorAtXY, [])] := rfl

/-- Opcode bytes 0x80 to 0x8F. -/
theorem test_decode_8x : [
      decode [0b10000000], decode [0b10000001], decode [0b10000010]] = [
      .ok (.cmp, []), .ok (.inc, []), .ok (.dec, [])] := rfl

/-- Opcode bytes 0xC0 to 0xCF. -/
theorem test_decode_Cx : [
      decode [0b11000000, 0x34, 0x12], decode [0b11000001]] = [
      .ok (.call 0x1234, []), .ok (.ret, [])] := rfl

/-- Opcode bytes 0xD0 to 0xDF. -/
theorem test_decode_Dx : [
      decode [0b11010000, 0x34, 0x12], decode [0b11010001, 0x34, 0x12], decode [0b11010010, 0x34, 0x12],
      decode [0b11010011, 0x34, 0x12], decode [0b11010100, 0x34, 0x12], decode [0b11010101, 0x34, 0x12],
      decode [0b11010110, 0x34, 0x12], decode [0b11010111, 0x34, 0x12], decode [0b11011000, 0x34, 0x12],
      decode [0b11011001, 0x34, 0x12], decode [0b11011010, 0x34, 0x12], decode [0b11011011, 0x34, 0x12],
      decode [0b11011100, 0x34, 0x12], decode [0b11011101, 0x34, 0x12], decode [0b11011110, 0x34, 0x12]] = [
      .ok (.jmp 0x1234, []), .ok (.jo 0x1234, []), .ok (.jno 0x1234, []), .ok (.js 0x1234, []),
      .ok (.jns 0x1234, []), .ok (.je 0x1234, []), .ok (.jne 0x1234, []), .ok (.jb 0x1234, []),
      .ok (.jnb 0x1234, []), .ok (.jbe 0x1234, []), .ok (.ja 0x1234, []), .ok (.jl 0x1234, []),
      .ok (.jge 0x1234, []), .ok (.jle 0x1234, []), .ok (.jg 0x1234, [])] := rfl

/-- Opcode bytes 0xF0 to 0xFF. -/
theorem test_decode_Fx : [
      decode [0b11110000], decode [0b11110001], decode [0b11110010], decode [0b11110011], decode [0b11111111]] = [
      .ok (.clc, []), .ok (.sec, []), .ok (.clo, []), .ok (.seo, []), .ok (.hlt, [])] := rfl

/-- The decodes of section 2.1 that give no instruction. -/
theorem test_decode_blank :
    [0x3C, 0x83, 0xBF, 0xC2, 0xCF, 0xDF, 0xEF, 0xF4, 0xFE].map (fun op : Byte => decode [op, 0x00, 0x00]) =
      [0x3C, 0x83, 0xBF, 0xC2, 0xCF, 0xDF, 0xEF, 0xF4, 0xFE].map (fun op : Byte => .error (.blankOpcode op)) := rfl
theorem test_decode_missing_operand :
    decode [] = .error .noBytes ∧ decode [0x18] = .error (.operandMissing 0x18) ∧
      decode [0xD0, 0x34] = .error (.operandMissing 0xD0) := ⟨rfl, rfl, rfl⟩
theorem test_table_word : decodeTableWord 24 0x1234D0 = some (.jmp 0x1234) ∧ decodeTableWord 8 0xFFFFD0 = some (.jmp 0) := by
  decide

/-! ### Execution: one step on a small state -/

/-- The start state of section 2.2, with the cell 0x0056 of section 2.6. -/
def small : State :=
  { State.start Params.default 0x11 0x22 0x33 0x44 0x55 0x66
      [(0x0055, 0x77), (0x0056, 0x01), (0x0200, 0x99), (0x4433, 0x88)] with pc := 0x0100 }

/-- One step on the bytes placed at PC. -/
def run (code : List Byte) (s : State) : Result := step (s.placeBytes code)

/-- A byte of the next state, and its PC. -/
def look (f : State → Byte) : Result → Option (Byte × Addr)
  | .next t => some (f t, t.pc)
  | .fault _ => none
  | .refused _ => none

/-- The byte at an address. -/
def cell (a : Addr) (s : State) : Byte := s.mem.read a

theorem test_mov_register :
    look State.b (run [0x00] small) = some (0x11, 0x0101) ∧ look State.sp (run [0x03] small) = some (0x11, 0x0101) ∧
    look State.sr (run [0x09] small) = some (0x22, 0x0101) ∧ look State.a (run [0x0C] small) = some (0x44, 0x0101) ∧
    look State.a (run [0x0F] small) = some (0x66, 0x0101) := by decide
theorem test_mov_immediate :
    look State.a (run [0x18, 0xA5] small) = some (0xA5, 0x0102) ∧
    look State.sr (run [0x1D, 0xA5] small) = some (0xA5, 0x0102) ∧
    look (cell 0x0055) (run [0x1E, 0xA5] small) = some (0xA5, 0x0102) ∧
    look (cell 0x4433) (run [0x1F, 0xA5] small) = some (0xA5, 0x0102) := by decide
theorem test_mov_to_address :
    look (cell 0x0300) (run [0x20, 0x00, 0x03] small) = some (0x11, 0x0103) ∧
    look (cell 0x0300) (run [0x25, 0x00, 0x03] small) = some (0x66, 0x0103) ∧
    look (cell 0x0300) (run [0x26, 0x00, 0x03] small) = some (0x77, 0x0103) ∧
    look (cell 0x0300) (run [0x27, 0x00, 0x03] small) = some (0x88, 0x0103) := by decide
theorem test_mov_from_address :
    look State.x (run [0x2A, 0x00, 0x02] small) = some (0x99, 0x0103) ∧
    look State.sr (run [0x2D, 0x00, 0x02] small) = some (0x99, 0x0103) ∧
    look (cell 0x0055) (run [0x2E, 0x00, 0x02] small) = some (0x99, 0x0103) ∧
    look (cell 0x4433) (run [0x2F, 0x00, 0x02] small) = some (0x99, 0x0103) := by decide
theorem test_mov_to_immediate_refused :
    run [0x10, 0x05] small = .refused (.immediateDestination 0x10) ∧
    run [0x17, 0x05] small = .refused (.immediateDestination 0x17) := ⟨rfl, rfl⟩
theorem test_blank_opcode_faults :
    run [0x3C] small = .fault (.illegalOpcode 0x3C) ∧ run [0xFE] small = .fault (.illegalOpcode 0xFE) := ⟨rfl, rfl⟩

theorem test_push :
    look (cell 0x0054) (run [0x30] small) = some (0x11, 0x0101) ∧ look State.sp (run [0x30] small) = some (0x54, 0x0101) ∧
    look (cell 0x0054) (run [0x34, 0xAB] small) = some (0xAB, 0x0102) ∧
    look (cell 0x0054) (run [0x35] small) = some (0x66, 0x0101) ∧
    look (cell 0x0054) (run [0x36, 0x00, 0x02] small) = some (0x99, 0x0103) ∧
    look (cell 0x0054) (run [0x37] small) = some (0x88, 0x0101) := by decide
/-- SP 0x00 wraps to 0xFF inside the stack page (section 2.6). -/
theorem test_push_wraps : look (cell 0x00FF) (run [0x30] { small with sp := 0x00 }) = some (0x11, 0x0101) := by decide
theorem test_pop :
    look State.a (run [0x38] small) = some (0x77, 0x0101) ∧ look State.sp (run [0x38] small) = some (0x56, 0x0101) ∧
    look State.sr (run [0x3D] small) = some (0x77, 0x0101) ∧
    look (cell 0x0210) (run [0x3E, 0x10, 0x02] small) = some (0x77, 0x0103) ∧
    look (cell 0x4433) (run [0x3F] small) = some (0x77, 0x0101) := by decide
theorem test_call :
    look (cell 0x0053) (run [0xC0, 0x09, 0x00] small) = some (0x03, 0x0009) ∧
    look (cell 0x0054) (run [0xC0, 0x09, 0x00] small) = some (0x01, 0x0009) ∧
    look State.sp (run [0xC0, 0x09, 0x00] small) = some (0x53, 0x0009) := by decide
/-- The call at 0x1234 with SP 0x01 of section 2.6: the high byte lies at 0x0000, the low byte at 0x00FF. -/
theorem test_call_wraps :
    look (cell 0x0000) (run [0xC0, 0x00, 0x20] { small with pc := 0x1234, sp := 0x01 }) = some (0x12, 0x2000) ∧
    look (cell 0x00FF) (run [0xC0, 0x00, 0x20] { small with pc := 0x1234, sp := 0x01 }) = some (0x37, 0x2000) := by decide
theorem test_ret : look State.sp (run [0xC1] small) = some (0x57, 0x0177) := by decide

/-- The start state of section 2.5: ADD gives 0x42 with all flags 0. -/
theorem test_alu_destinations :
    let s := { small with a := 0x30, b := 0x12, sr := 0x80 }
    look State.a (run [0x40] s) = some (0x42, 0x0101) ∧ look State.b (run [0x41] s) = some (0x42, 0x0101) ∧
    look State.x (run [0x42] s) = some (0x42, 0x0101) ∧ look State.y (run [0x43] s) = some (0x42, 0x0101) ∧
    look State.sp (run [0x44] s) = some (0x42, 0x0101) ∧
    look (cell 0x0200) (run [0x45, 0x00, 0x02] s) = some (0x42, 0x0103) ∧
    look (cell 0x0055) (run [0x46] s) = some (0x42, 0x0101) ∧ look (cell 0x4433) (run [0x47] s) = some (0x42, 0x0101) ∧
    look State.sr (run [0x46] s) = some (0x80, 0x0101) := by decide
/-- Incoming flags are overwritten, bits 7 to 4 kept (end of section 2.4). -/
theorem test_alu_flags_overwritten :
    look State.sr (run [0x40] { small with a := 0x01, b := 0x01, sr := 0xFF }) = some (0xF0, 0x0101) ∧
    look State.sr (run [0x68] { small with a := 0x00, b := 0x00, sr := 0x0F }) = some (0x02, 0x0101) ∧
    look State.sr (run [0x80] { small with a := 0x03, b := 0x05, sr := 0x80 }) = some (0x85, 0x0101) := by decide
theorem test_alu_other_operations :
    look State.b (run [0x49] { small with a := 0x30, b := 0x12 }) = some (0x1E, 0x0101) ∧
    look State.sp (run [0x5C] { small with a := 0x01, b := 0x04 }) = some (0x10, 0x0101) ∧
    look State.a (run [0x50] { small with a := 0x01, b := 0x02, sr := 0x01 }) = some (0x04, 0x0101) ∧
    look State.a (run [0x60] { small with a := 0xF0, b := 0x04 }) = some (0x0F, 0x0101) ∧
    look State.a (run [0x70] { small with a := 0xFF, b := 0x80 }) = some (0x80, 0x0101) ∧
    look State.a (run [0x78] { small with a := 0x5A, b := 0xFF }) = some (0xA5, 0x0101) := by decide
/-- Rows of section 2.4: result, CF, ZF, SF, OF. -/
theorem test_add_vectors :
    addFlags 0x7F 0x01 false = ⟨0x80, false, false, true, true⟩ ∧
    addFlags 0x80 0x80 false = ⟨0x00, true, true, false, true⟩ ∧
    addFlags 0xFF 0x01 false = ⟨0x00, true, true, false, false⟩ ∧
    addFlags 0x80 0x7F true = ⟨0x00, true, true, false, false⟩ ∧
    addFlags 0x80 0xFF true = ⟨0x80, true, false, true, false⟩ ∧
    addFlags 0x80 0xFF false = ⟨0x7F, true, false, false, true⟩ := by decide
theorem test_sub_vectors :
    subFlags 0x03 0x05 = ⟨0xFE, true, false, true, false⟩ ∧ subFlags 0x80 0x01 = ⟨0x7F, false, false, false, true⟩ ∧
    subFlags 0x7F 0xFF = ⟨0x80, true, false, true, true⟩ ∧ subFlags 0xFF 0x7F = ⟨0x80, false, false, true, false⟩ ∧
    subFlags 0x80 0x80 = ⟨0x00, false, true, false, false⟩ := by decide
theorem test_shift_vectors :
    lshFlags 0x81 0x01 = ⟨0x02, true, false, false, false⟩ ∧ lshFlags 0x03 0x08 = ⟨0x00, true, true, false, false⟩ ∧
    lshFlags 0xFF 0x09 = ⟨0x00, false, true, false, false⟩ ∧ lshFlags 0x01 0x00 = ⟨0x01, false, false, false, false⟩ ∧
    rshFlags 0xFF 0x01 = ⟨0x7F, false, false, false, false⟩ ∧ rshFlags 0x80 0x00 = ⟨0x80, false, false, true, false⟩ ∧
    rshFlags 0xFF 0x08 = ⟨0x00, false, true, false, false⟩ := by decide
theorem test_inc_dec :
    look State.a (run [0x81] { small with a := 0xFF }) = some (0x00, 0x0101) ∧
    look State.sr (run [0x81] { small with a := 0xFF }) = some (0x63, 0x0101) ∧
    look State.sr (run [0x81] { small with a := 0x7F }) = some (0x6C, 0x0101) ∧
    look State.sr (run [0x82] { small with a := 0x00 }) = some (0x65, 0x0101) ∧
    look State.sr (run [0x82] { small with a := 0x80 }) = some (0x68, 0x0101) := by decide

/-- Which of the fifteen jumps are taken, 0xD0 first, for a value of SR. -/
def taken (sr : Byte) : List Bool :=
  (List.range 15).map fun k =>
    look State.sr (run [0xD0 + BitVec.ofNat 8 k, 0x00, 0x02] { small with pc := 0x0010, sr := sr }) == some (sr, 0x0200)

/-- Rows 0x0, 0x3, 0x4, 0x9 and 0xC of the truth table of section 2.3. -/
theorem test_jumps_0 : taken 0x00 = [true, false, true, false, true, false, true, false, true, false, true, false, true,
    false, true] := by decide
theorem test_jumps_3 : taken 0x03 = [true, false, true, false, true, true, false, true, false, true, false, false, true,
    true, false] := by decide
theorem test_jumps_4 : taken 0x04 = [true, false, true, true, false, false, true, false, true, false, true, true, false,
    true, false] := by decide
theorem test_jumps_9 : taken 0xF9 = [true, true, false, false, true, false, true, true, false, true, false, true, false,
    true, false] := by decide
theorem test_jump_not_taken : look State.sr (run [0xD1, 0x00, 0x02] { small with sr := 0x00 }) = some (0x00, 0x0103) := by
  decide
/-- JMP at 0xFFFF: the operand bytes are fetched from 0x0000 and 0x0001 (section 2.1). -/
theorem test_fetch_wraps : look State.a (run [0xD0, 0x34, 0x12] { small with pc := 0xFFFF }) = some (0x11, 0x1234) := by
  decide

/-- Section 2.7, SR before 0x85. -/
theorem test_flag_instructions :
    look State.sr (run [0xF0] { small with sr := 0x85 }) = some (0x84, 0x0101) ∧
    look State.sr (run [0xF1] { small with sr := 0x00 }) = some (0x01, 0x0101) ∧
    look State.sr (run [0xF2] { small with sr := 0xFF }) = some (0xF7, 0x0101) ∧
    look State.sr (run [0xF3] { small with sr := 0x85 }) = some (0x8D, 0x0101) := by decide
theorem test_hlt : ∃ t, run [0xFF] small = .next t ∧ t.halted = true ∧ t.pc = 0x0101 ∧ t.sr = 0x66 :=
  ⟨_, rfl, rfl, rfl, rfl⟩

/-- Section 2.8: PUSH [0x0054] with SP 0x55 reads its source before it stores over it. -/
theorem test_push_overlap :
    look (cell 0x0054) (run [0x36, 0x54, 0x00] { small with mem := [(0x0054, 0x3C)] }) = some (0x3C, 0x0103) := by decide
/-- Section 2.8: a store over the instruction's own second byte goes to the address as fetched. -/
theorem test_store_over_itself : look (cell 0x0101) (run [0x20, 0x01, 0x01] small) = some (0x11, 0x0103) := by decide

/-! ### Witnesses: states and operands that meet the hypotheses of the statements -/

/-- `small` with an extension card at 0x0054, 0x0055, 0x0101 and 0x4433. -/
def carded : State := { small with params := { Params.default with ioRegion := [0x0054, 0x0055, 0x0101, 0x4433] } }

theorem witness_EncodeOfDecode : decode [0x20, 0x22, 0x00, 0xFF] = .ok (.movAToMem 0x0022, [0xFF]) := rfl
theorem witness_LengthFollowsOpcode_blank :
    lengthOfOpcode 0x3C = none ∧ lengthOfOpcode 0x83 = none ∧ lengthOfOpcode 0xBF = none ∧ lengthOfOpcode 0xFE = none := by
  decide
theorem witness_LengthFollowsOpcode_missing :
    (lengthOfOpcode 0x34 = some 2 ∧ ([] : List Byte).length + 1 < 2) ∧
    (lengthOfOpcode 0xC0 = some 3 ∧ ([0x00] : List Byte).length + 1 < 3) := by decide
theorem witness_LengthFollowsOpcode_present :
    (lengthOfOpcode 0x00 = some 1 ∧ 1 ≤ ([] : List Byte).length + 1) ∧
    (lengthOfOpcode 0x34 = some 2 ∧ 2 ≤ ([0x00] : List Byte).length + 1) ∧
    (lengthOfOpcode 0xDE = some 3 ∧ 3 ≤ ([0x00, 0x00] : List Byte).length + 1) := by decide

/-- Three cells at PC 0xFFFF, wrapping to 0x0000: both clauses, the addresses of all bytes being cells. -/
def jumper : State := { small with pc := 0xFFFF, mem := [(0x0000, 0x34), (0x0001, 0x12), (0xFFFF, 0xD0)] }
theorem witness_StepRunsDecodedInstruction_read :
    jumper.halted = false ∧ decode (jumper.readBytes jumper.pc 3).1 = .ok (.jmp 0x1234, []) := ⟨rfl, rfl⟩
theorem witness_StepRunsDecodedInstruction_cells :
    jumper.halted = false ∧ jumper.isIO jumper.pc = false ∧ jumper.isIO (jumper.pc + 1) = false ∧
    jumper.isIO (jumper.pc + 2) = false ∧
    decode [jumper.mem.read jumper.pc, jumper.mem.read (jumper.pc + 1), jumper.mem.read (jumper.pc + 2)] =
      .ok (.jmp 0x1234, []) := ⟨rfl, rfl, rfl, rfl, rfl⟩
theorem witness_StepRunsDecodedInstruction_length :
    ∀ k, k < (encode (.jmp 0x1234)).length → jumper.isIO (jumper.pc + BitVec.ofNat 16 k) = false := by decide
/-- A card answers the address after a one-byte instruction: the first clause holds with its answer in the rest. -/
theorem witness_StepRunsDecodedInstruction_card :
    carded.halted = false ∧ ∃ rest, decode (carded.readBytes carded.pc 3).1 = .ok (.movAToB, rest) := ⟨rfl, _, rfl⟩

theorem witness_StepOutcomeFollowsOpcodeByte_blank :
    (small.placeBytes [0x3C]).halted = false ∧
    blankOpcode ((small.placeBytes [0x3C]).memValue (small.placeBytes [0x3C]).pc) = true ∧
    blankOpcode ((small.placeBytes [0xFE]).memValue (small.placeBytes [0xFE]).pc) = true := by decide
theorem witness_StepOutcomeFollowsOpcodeByte_refused :
    (small.placeBytes [0x10]).halted = false ∧ (small.placeBytes [0x10]).memValue (small.placeBytes [0x10]).pc = 0x10 ∧
    (small.placeBytes [0x17]).memValue (small.placeBytes [0x17]).pc = 0x17 := by decide
theorem witness_StepOutcomeFollowsOpcodeByte_runs :
    (small.placeBytes [0x0F]).halted = false ∧
    [0x0F, 0x18, 0x82, 0xC0, 0xFF].map (fun op : Byte =>
      blankOpcode op || (0x10 ≤ op.toNat && op.toNat ≤ 0x17)) = List.replicate 5 false ∧
    (small.placeBytes [0x18]).memValue (small.placeBytes [0x18]).pc = 0x18 := by decide

theorem witness_HaltedStepStays : ({ small with halted := true } : State).halted = true := rfl
theorem witness_OnlyHltHalts : (∃ t, exec .hlt small = .next t) ∧ ∃ t, exec .movAToB small = .next t :=
  ⟨⟨_, rfl⟩, ⟨_, rfl⟩⟩
theorem witness_PlacedWordIsRunNext : decodeTableWord 24 0x1234D0 = some (.jmp 0x1234) := by decide
theorem witness_CanonicalAtStart : Memory.wf [(0x0000, 0x01), (0x0055, 0x77), (0xFFFF, 0xFF)] = true := by decide
theorem witness_StepKeepsMemoryCanonical :
    MemoryCanonical (small.placeBytes [0x30]) ∧ ∃ t, step (small.placeBytes [0x30]) = .next t :=
  ⟨by unfold MemoryCanonical; decide, _, rfl⟩
/-- Two orders of writing two cells. -/
theorem witness_CanonicalMemoriesAreEqual :
    let m := (Memory.write [] 0x0003 0x02).write 0xFFFF 0x01
    let m' := (Memory.write [] 0xFFFF 0x01).write 0x0003 0x02
    m.wf = true ∧ m'.wf = true ∧ ∀ a : Addr, m.read a = m'.read a := ⟨by decide, by decide, fun _ => rfl⟩
theorem witness_StepKeepsParameters : ∃ t, step (small.placeBytes [0x00]) = .next t := ⟨_, rfl⟩
theorem witness_MemoryChangesOnlyWhereStored_elsewhere :
    (∃ t, exec .pushA small = .next t) ∧ (0x0055 : Addr) ∉ storeAddrs small .pushA := ⟨⟨_, rfl⟩, by decide⟩
theorem witness_MemoryChangesOnlyWhereStored_card :
    (∃ t, exec .pushA carded = .next t) ∧ (0x0054 : Addr) ∈ storeAddrs carded .pushA ∧ carded.isIO 0x0054 = true :=
  ⟨⟨_, rfl⟩, by decide, by decide⟩
theorem witness_RegistersChangeOnlyAsListed :
    (∃ t, exec .addX small = .next t) ∧ Reg.A ∉ regsWritten .addX := ⟨⟨_, rfl⟩, by decide⟩
theorem witness_SRChangesOnlyAsListed : ∃ t, exec .addX small = .next t := ⟨_, rfl⟩
theorem witness_HighSRBitsAreInert :
    (0xF6 : Byte).extractLsb' 0 4 = small.sr.extractLsb' 0 4 ∧ Instr.addX ≠ .movSRToA ∧
    (∀ adr, Instr.addX ≠ .movSRToMem adr) ∧ Instr.addX ≠ .pushSR ∧ ∃ t, exec .addX small = .next t :=
  ⟨by decide, by decide, fun _ => Instr.noConfusion, by decide, _, rfl⟩
/-- SP wraps at the push. -/
theorem witness_PopUndoesPush :
    small.isIO small.decSP.stackAddr = false ∧
    ({ small with sp := 0x00 } : State).isIO ({ small with sp := 0x00 } : State).decSP.stackAddr = false := by decide
theorem witness_CallCompletes :
    small.isIO small.decSP.stackAddr = false ∧ small.isIO small.decSP.decSP.stackAddr = false := by decide
theorem witness_RetCompletes :
    small.isIO small.stackAddr = false ∧ small.isIO small.incSP.stackAddr = false := by decide
theorem witness_RetReturnsFromCall :
    small.isIO small.decSP.stackAddr = false ∧ small.isIO small.decSP.decSP.stackAddr = false ∧
    ∃ t, exec (.call 0x0009) small = .next t := ⟨by decide, by decide, _, rfl⟩
/-- Both clauses of a stored byte: a cell, and an address that a card answers. -/
theorem witness_StoredByte :
    small.isIO small.stackAddr = false ∧ carded.isIO carded.stackAddr = true ∧ carded.isIO carded.xyAddr = true ∧
    carded.isIO carded.decSP.stackAddr = true := by decide
theorem witness_JumpsOnUnsignedComparison : ∃ s, exec .cmp small = .next s := ⟨_, rfl⟩
/-- The comparison of 0x80 with 0x05: below as signed numbers, above as unsigned ones. -/
theorem witness_JumpsOnSignedComparison : ∃ s, exec .cmp { small with a := 0x80, b := 0x05 } = .next s ∧ s.sr = 0x68 :=
  ⟨_, rfl, rfl⟩
/-- Two states with the same bytes at PC, at different addresses and with different registers. -/
theorem witness_LengthIsGivenByOpcodeAlone :
    let s := small.placeBytes [0x1A, 0xA5, 0x00]
    let t := ({ small with pc := 0xFFFE, a := 0x00, sr := 0xFF } : State).placeBytes [0x1A, 0xA5, 0x00]
    (s.readBytes s.pc 3).1 = (t.readBytes t.pc 3).1 ∧ ∃ u, s.fetch = .ok (.movImmToX 0xA5, u) := ⟨rfl, _, rfl⟩
theorem witness_XYIsThePairOfXAndY_unnamed :
    (∃ t, exec .pushA small = .next t) ∧ Operand.reg .X ∉ namedOperands .pushA ∧
    Operand.reg .Y ∉ namedOperands .pushA ∧ Operand.atXY ∉ namedOperands .pushA :=
  ⟨⟨_, rfl⟩, by decide, by decide, by decide⟩
/-- X named and written, Y not; and [XY] named, X and Y not. -/
theorem witness_XYIsThePairOfXAndY_named :
    ((∃ t, exec .subX small = .next t ∧ t.x ≠ small.x) ∧ Operand.reg .Y ∉ namedOperands .subX) ∧
    (∃ t, exec .addAtXY small = .next t) ∧ Operand.reg .X ∉ namedOperands .addAtXY ∧
    Operand.reg .Y ∉ namedOperands .addAtXY :=
  ⟨⟨⟨_, rfl, by decide⟩, by decide⟩, ⟨_, rfl⟩, by decide, by decide⟩

end Sys2Proof.Tests
end

section
/-! The state of the machine (`10_state.md`): what a run starts with, and what the instructions do to X, Y and the
pair XY. Every instruction that completes runs one of a few shared operations; what those do to X and Y is said once
per operation, and each fact about instructions is read off from there. -/

namespace Sys2Proof.Machine

/-! ### The shared operation an instruction runs -/

/-- `Effect ops f`: the state transformer `f` is one of the shared operations, and `ops` are the operands a user of it
names. An ALU operation sees A, B and the carry, a condition only SR; neither sees X or Y. -/
inductive Effect : List Operand → (State → State) → Prop where
  | moveReg (src dst : Reg) : Effect [.reg src, .reg dst] fun s => s.moveReg src dst
  | moveImm (imm : Byte) (dst : Operand) : Effect [dst] fun s => s.moveImm imm dst
  | moveToMem (src : Operand) (adr : Addr) : Effect [src] fun s => s.moveToMem src adr
  | moveFromMem (adr : Addr) (dst : Operand) : Effect [dst] fun s => s.moveFromMem adr dst
  | pushReg (r : Reg) : Effect [.reg r] fun s => s.pushReg r
  | pushImm (imm : Byte) : Effect [] fun s => (s.push imm).advance 2
  | pushMem (adr : Addr) : Effect [] fun s => ((s.noteRead adr).push (s.memValue adr)).advance 3
  | pushAtXY : Effect [.atXY] fun s => ((s.noteRead s.xyAddr).push (s.memValue s.xyAddr)).advance 1
  | popReg (r : Reg) : Effect [.reg r] fun s => s.popReg r
  | popMem (adr : Addr) : Effect [] fun s => (s.pop.2.memWrite adr s.pop.1).advance 3
  | popAtXY : Effect [.atXY] fun s => (s.pop.2.memWrite s.pop.2.xyAddr s.pop.1).advance 1
  | alu (op : Byte → Byte → Bool → AluOut) (dst : Operand) : Effect [dst] fun s => s.aluTo (op s.a s.b s.cf) dst
  | aluMem (op : Byte → Byte → Bool → AluOut) (adr : Addr) : Effect [] fun s => s.aluToMem (op s.a s.b s.cf) adr
  | aluAcc (op : Byte → AluOut) : Effect [] fun s => s.aluTo (op s.a) (.reg .A)
  | status (g : Byte → Byte → Byte → Byte) : Effect [] fun s => (s.setSR (g s.a s.b s.sr)).advance 1
  | call (adr : Addr) :
      Effect [] fun s => ((s.push (highByte (s.next 3))).push (lowByte (s.next 3))).jump adr
  | ret : Effect [] fun s => s.pop.2.pop.2.jump (joinBytes s.pop.2.pop.1 s.pop.1)
  | jumpIf (cond : Byte → Bool) (adr : Addr) : Effect [] fun s => s.jumpIf (cond s.sr) adr
  | halt : Effect [] fun s => (s.advance 1).halt

/-- An instruction that completes in one state completes in every state, and always runs the same shared operation on
the operands it names. The eight moves into an immediate are the ones that complete nowhere (`40_move.md` R111). -/
theorem exec_effect {i : Instr} {s t : State} (h : exec i s = .next t) :
    ∃ f, Effect (namedOperands i) f ∧ ∀ u, exec i u = .next (f u) := by
  cases i with
  | movAToB | movAToX | movAToY | movAToSP | movAToSR | movBToA | movBToX | movBToY | movBToSP | movBToSR
  | movXToA | movXToB | movYToA | movYToB | movSPToA | movSRToA => exact ⟨_, .moveReg _ _, fun _ => rfl⟩
  | movAToImm | movBToImm | movXToImm | movYToImm | movSPToImm | movSRToImm | movAtSPToImm | movAtXYToImm => cases h
  | movImmToA imm | movImmToB imm | movImmToX imm | movImmToY imm | movImmToSP imm | movImmToSR imm
  | movImmToAtSP imm | movImmToAtXY imm => exact ⟨_, .moveImm imm _, fun _ => rfl⟩
  | movAToMem adr | movBToMem adr | movXToMem adr | movYToMem adr | movSPToMem adr | movSRToMem adr
  | movAtSPToMem adr | movAtXYToMem adr => exact ⟨_, .moveToMem _ adr, fun _ => rfl⟩
  | movMemToA adr | movMemToB adr | movMemToX adr | movMemToY adr | movMemToSP adr | movMemToSR adr
  | movMemToAtSP adr | movMemToAtXY adr => exact ⟨_, .moveFromMem adr _, fun _ => rfl⟩
  | pushA | pushB | pushX | pushY | pushSR => exact ⟨_, .pushReg _, fun _ => rfl⟩
  | pushImm imm => exact ⟨_, .pushImm imm, fun _ => rfl⟩
  | pushMem adr => exact ⟨_, .pushMem adr, fun _ => rfl⟩
  | pushAtXY => exact ⟨_, .pushAtXY, fun _ => rfl⟩
  | popA | popB | popX | popY | popSR => exact ⟨_, .popReg _, fun _ => rfl⟩
  | popMem adr => exact ⟨_, .popMem adr, fun _ => rfl⟩
  | popAtXY => exact ⟨_, .popAtXY, fun _ => rfl⟩
  | addA | addB | addX | addY | addSP | addAtSP | addAtXY =>
    exact ⟨_, .alu (fun a b _ => addFlags a b false) _, fun _ => rfl⟩
  | subA | subB | subX | subY | subSP | subAtSP | subAtXY => exact ⟨_, .alu (fun a b _ => subFlags a b) _, fun _ => rfl⟩
  | adcA | adcB | adcX | adcY | adcSP | adcAtSP | adcAtXY => exact ⟨_, .alu addFlags _, fun _ => rfl⟩
  | lshA | lshB | lshX | lshY | lshSP | lshAtSP | lshAtXY => exact ⟨_, .alu (fun a b _ => lshFlags a b) _, fun _ => rfl⟩
  | rshA | rshB | rshX | rshY | rshSP | rshAtSP | rshAtXY => exact ⟨_, .alu (fun a b _ => rshFlags a b) _, fun _ => rfl⟩
  | orA | orB | orX | orY | orSP | orAtSP | orAtXY =>
    exact ⟨_, .alu (fun a b _ => logicFlags (a ||| b)) _, fun _ => rfl⟩
  | andA | andB | andX | andY | andSP | andAtSP | andAtXY =>
    exact ⟨_, .alu (fun a b _ => logicFlags (a &&& b)) _, fun _ => rfl⟩
  | xorA | xorB | xorX | xorY | xorSP | xorAtSP | xorAtXY =>
    exact ⟨_, .alu (fun a b _ => logicFlags (a ^^^ b)) _, fun _ => rfl⟩
  | addMem adr => exact ⟨_, .aluMem (fun a b _ => addFlags a b false) adr, fun _ => rfl⟩
  | subMem adr => exact ⟨_, .aluMem (fun a b _ => subFlags a b) adr, fun _ => rfl⟩
  | adcMem adr => exact ⟨_, .aluMem addFlags adr, fun _ => rfl⟩
  | lshMem adr => exact ⟨_, .aluMem (fun a b _ => lshFlags a b) adr, fun _ => rfl⟩
  | rshMem adr => exact ⟨_, .aluMem (fun a b _ => rshFlags a b) adr, fun _ => rfl⟩
  | orMem adr => exact ⟨_, .aluMem (fun a b _ => logicFlags (a ||| b)) adr, fun _ => rfl⟩
  | andMem adr => exact ⟨_, .aluMem (fun a b _ => logicFlags (a &&& b)) adr, fun _ => rfl⟩
  | xorMem adr => exact ⟨_, .aluMem (fun a b _ => logicFlags (a ^^^ b)) adr, fun _ => rfl⟩
  | cmp => exact ⟨_, .status fun a b sr => withFlags sr (subFlags a b), fun _ => rfl⟩
  | inc => exact ⟨_, .aluAcc fun a => addFlags a 0x01 false, fun _ => rfl⟩
  | dec => exact ⟨_, .aluAcc fun a => subFlags a 0x01, fun _ => rfl⟩
  | call adr => exact ⟨_, .call adr, fun _ => rfl⟩
  | ret => exact ⟨_, .ret, fun _ => rfl⟩
  | jmp adr => exact ⟨_, .jumpIf (fun _ => true) adr, fun _ => rfl⟩
  | jo adr => exact ⟨_, .jumpIf (fun sr => sr[3]) adr, fun _ => rfl⟩
  | jno adr => exact ⟨_, .jumpIf (fun sr => !sr[3]) adr, fun _ => rfl⟩
  | js adr => exact ⟨_, .jumpIf (fun sr => sr[2]) adr, fun _ => rfl⟩
  | jns adr => exact ⟨_, .jumpIf (fun sr => !sr[2]) adr, fun _ => rfl⟩
  | je adr => exact ⟨_, .jumpIf (fun sr => sr[1]) adr, fun _ => rfl⟩
  | jne adr => exact ⟨_, .jumpIf (fun sr => !sr[1]) adr, fun _ => rfl⟩
  | jb adr => exact ⟨_, .jumpIf (fun sr => sr[0]) adr, fun _ => rfl⟩
  | jnb adr => exact ⟨_, .jumpIf (fun sr => !sr[0]) adr, fun _ => rfl⟩
  | jbe adr => exact ⟨_, .jumpIf (fun sr => sr[0] || sr[1]) adr, fun _ => rfl⟩
  | ja adr => exact ⟨_, .jumpIf (fun sr => !sr[0] && !sr[1]) adr, fun _ => rfl⟩
  | jl adr => exact ⟨_, .jumpIf (fun sr => sr[2] != sr[3]) adr, fun _ => rfl⟩
  | jge adr => exact ⟨_, .jumpIf (fun sr => sr[2] == sr[3]) adr, fun _ => rfl⟩
  | jle adr => exact ⟨_, .jumpIf (fun sr => sr[1] || sr[2] != sr[3]) adr, fun _ => rfl⟩
  | jg adr => exact ⟨_, .jumpIf (fun sr => !sr[1] && sr[2] == sr[3]) adr, fun _ => rfl⟩
  | clc => exact ⟨_, .status fun _ _ sr => withCF sr false, fun _ => rfl⟩
  | sec => exact ⟨_, .status fun _ _ sr => withCF sr true, fun _ => rfl⟩
  | clo => exact ⟨_, .status fun _ _ sr => withOF sr false, fun _ => rfl⟩
  | seo => exact ⟨_, .status fun _ _ sr => withOF sr true, fun _ => rfl⟩
  | hlt => exact ⟨_, .halt, fun _ => rfl⟩

/-! ### X and Y are written through one destination only -/

theorem State.writeOp_x (s : State) {d : Operand} (v : Byte) (h : d ≠ .reg .X) : (s.writeOp d v).x = s.x := by
  cases d with
  | reg r => rw [writeOp_reg, setReg_x, if_neg fun hr => h (congrArg _ hr)]
  | atSP | atXY => rfl

theorem State.writeOp_y (s : State) {d : Operand} (v : Byte) (h : d ≠ .reg .Y) : (s.writeOp d v).y = s.y := by
  cases d with
  | reg r => rw [writeOp_reg, setReg_y, if_neg fun hr => h (congrArg _ hr)]
  | atSP | atXY => rfl

/-- Of X and Y, `f` changes at most the one that is the operand `d`. -/
def KeepsXYBut (d : Operand) (f : State → State) : Prop :=
  ∀ s : State, (d ≠ .reg .X → (f s).x = s.x) ∧ (d ≠ .reg .Y → (f s).y = s.y)

/-- Every shared operation has one destination; where the destination is not a named operand, it is neither X
nor Y. -/
theorem Effect.one_destination {ops : List Operand} {f : State → State} (e : Effect ops f) :
    ∃ d, (d ∈ ops ∨ d ≠ .reg .X ∧ d ≠ .reg .Y) ∧ KeepsXYBut d f := by
  cases e with
  | moveReg src dst => exact ⟨.reg dst, .inl (by simp), fun s => ⟨s.writeOp_x _, s.writeOp_y _⟩⟩
  | moveImm imm dst => exact ⟨dst, .inl (by simp), fun s => ⟨s.writeOp_x _, s.writeOp_y _⟩⟩
  | moveFromMem adr dst =>
    exact ⟨dst, .inl (by simp), fun s => ⟨(s.noteRead adr).writeOp_x _, (s.noteRead adr).writeOp_y _⟩⟩
  | popReg r => exact ⟨.reg r, .inl (by simp), fun s => ⟨s.pop.2.writeOp_x _, s.pop.2.writeOp_y _⟩⟩
  | alu op dst => exact ⟨dst, .inl (by simp), fun s => ⟨s.writeOp_x _, s.writeOp_y _⟩⟩
  | aluAcc => exact ⟨.reg .A, .inr (by decide), fun _ => ⟨fun _ => rfl, fun _ => rfl⟩⟩
  | moveToMem src adr =>
    refine ⟨.atSP, .inr (by decide), fun s => ?_⟩
    cases src <;> exact ⟨fun _ => rfl, fun _ => rfl⟩
  | pushReg | pushImm | pushMem | pushAtXY | popMem | popAtXY | aluMem | status | call | ret | jumpIf | halt =>
    exact ⟨.atSP, .inr (by decide), fun _ => ⟨fun _ => rfl, fun _ => rfl⟩⟩

/-- What an instruction that completes does to X and Y: it changes at most one of the two, and that one only as a
named operand. -/
theorem exec_one_destination {i : Instr} {s t : State} (h : exec i s = .next t) :
    ∃ d, (d ∈ namedOperands i ∨ d ≠ .reg .X ∧ d ≠ .reg .Y) ∧ (d ≠ .reg .X → t.x = s.x) ∧ (d ≠ .reg .Y → t.y = s.y) := by
  obtain ⟨f, e, hf⟩ := exec_effect h
  obtain ⟨d, hd, keeps⟩ := e.one_destination
  cases h.symm.trans (hf s)
  exact ⟨d, hd, keeps s⟩

theorem exec_x_of_not_named {i : Instr} {s t : State} (h : exec i s = .next t)
    (hX : .reg .X ∉ namedOperands i) : t.x = s.x := by
  obtain ⟨d, hd, hx, -⟩ := exec_one_destination h
  exact hx (hd.elim (fun hmem hdX => hX (hdX ▸ hmem)) And.left)

theorem exec_y_of_not_named {i : Instr} {s t : State} (h : exec i s = .next t)
    (hY : .reg .Y ∉ namedOperands i) : t.y = s.y := by
  obtain ⟨d, hd, -, hy⟩ := exec_one_destination h
  exact hy (hd.elim (fun hmem hdY => hY (hdY ▸ hmem)) And.right)

theorem exec_x_eq_or_y_eq {i : Instr} {s t : State} (h : exec i s = .next t) : t.x = s.x ∨ t.y = s.y := by
  obtain ⟨d, -, hx, hy⟩ := exec_one_destination h
  by_cases hd : d = .reg .X
  · exact .inr (hy (by simp [hd]))
  · exact .inl (hx hd)

/-! ### Other values of X and Y make no difference to what names neither -/

/-- The state with other values of X and Y. -/
def State.withXY (s : State) (v w : Byte) : State := { s with x := v, y := w }

/-- The operand is none of X, Y and `[XY]`. -/
def AvoidsXY (d : Operand) : Prop := d ≠ .reg .X ∧ d ≠ .reg .Y ∧ d ≠ .atXY

theorem AvoidsXY.cases {d : Operand} (h : AvoidsXY d) :
    d = .reg .A ∨ d = .reg .B ∨ d = .reg .SP ∨ d = .reg .SR ∨ d = .atSP := by
  obtain ⟨hX, hY, hXY⟩ := h
  cases d with
  | reg r => cases r <;> simp_all
  | atSP => simp
  | atXY => exact absurd rfl hXY

namespace State

variable (s : State) (v w : Byte)

/-- Reading an operand other than X, Y and `[XY]` sees nothing of X and Y and leaves them. -/
theorem readOp_withXY {d : Operand} (h : AvoidsXY d) :
    (s.withXY v w).readOp d = ((s.readOp d).1, (s.readOp d).2.withXY v w) := by
  rcases h.cases with rfl | rfl | rfl | rfl | rfl <;> rfl

/-- Writing an operand other than X, Y and `[XY]` sees nothing of X and Y and leaves them. -/
theorem writeOp_withXY {d : Operand} (h : AvoidsXY d) (b : Byte) :
    (s.withXY v w).writeOp d b = (s.writeOp d b).withXY v w := by
  rcases h.cases with rfl | rfl | rfl | rfl | rfl <;> rfl

theorem getReg_withXY {r : Reg} (h : AvoidsXY (.reg r)) : (s.withXY v w).getReg r = s.getReg r :=
  congrArg Prod.fst (s.readOp_withXY v w h)

theorem setReg_withXY {r : Reg} (h : AvoidsXY (.reg r)) (b : Byte) :
    (s.withXY v w).setReg r b = (s.setReg r b).withXY v w :=
  s.writeOp_withXY v w h b

end State

/-- A shared operation on operands other than X, Y and `[XY]` commutes with giving X and Y other values. -/
theorem Effect.withXY {ops : List Operand} {f : State → State} (e : Effect ops f) (h : ∀ d ∈ ops, AvoidsXY d)
    (s : State) (v w : Byte) : f (s.withXY v w) = (f s).withXY v w := by
  cases e with
  | moveReg src dst =>
    simp only [State.moveReg, State.getReg_withXY s v w (h (.reg src) (by simp)),
      State.setReg_withXY s v w (h (.reg dst) (by simp))]
    rfl
  | moveImm imm dst => exact congrArg (·.advance 2) (s.writeOp_withXY v w (h dst (by simp)) imm)
  | moveToMem src adr =>
    simp only [State.moveToMem, State.readOp_withXY s v w (h src (by simp))]
    rfl
  | moveFromMem adr dst =>
    exact congrArg (·.advance 3) ((s.noteRead adr).writeOp_withXY v w (h dst (by simp)) _)
  | pushReg r =>
    simp only [State.pushReg, State.getReg_withXY s v w (h (.reg r) (by simp))]
    rfl
  | popReg r => exact congrArg (·.advance 1) (s.pop.2.setReg_withXY v w (h (.reg r) (by simp)) _)
  | alu op dst =>
    exact congrArg (fun u => (u.setFlags (op s.a s.b s.cf)).advance 1) (s.writeOp_withXY v w (h dst (by simp)) _)
  | pushAtXY | popAtXY => exact absurd rfl (h .atXY (by simp)).2.2
  | pushImm | pushMem | popMem | aluMem | aluAcc | status | call | ret | jumpIf | halt => rfl

/-- An instruction that names none of X, Y and `[XY]` does the same whatever X and Y hold, and leaves them. -/
theorem exec_withXY {i : Instr} {s t : State} (h : exec i s = .next t) (hi : ∀ d ∈ namedOperands i, AvoidsXY d)
    (v w : Byte) : exec i (s.withXY v w) = .next (t.withXY v w) := by
  obtain ⟨f, e, hf⟩ := exec_effect h
  cases h.symm.trans (hf s)
  rw [hf, e.withXY hi]

/-! ### The obligations -/

/-- Settles O54: the pair itself from the laws of `joinBytes`, the rest from what an instruction's one destination is
and from the shared operations commuting with other values of X and Y. -/
theorem xyIsThePairOfXAndY : Obligations.XYIsThePairOfXAndY := by
  intro s
  refine ⟨⟨joinBytes_toNat _ _, lowByte_joinBytes _ _, highByte_joinBytes _ _⟩, fun v => ⟨rfl, rfl⟩, fun i t h => ?_⟩
  have hx := exec_x_of_not_named h
  have hy := exec_y_of_not_named h
  refine ⟨hx, hy, fun hX hY => State.xyAddr_eq (hx hX) (hy hY), exec_x_eq_or_y_eq h, fun hX hY hXY => ?_⟩
  have avoids : ∀ d ∈ namedOperands i, AvoidsXY d := fun d hd =>
    ⟨fun hdX => hX (hdX ▸ hd), fun hdY => hY (hdY ▸ hd), fun hdXY => hXY (hdXY ▸ hd)⟩
  exact exec_withXY h avoids

/-- Settles O10: the fields of a start are what `State.start` lists, and `State.reset` is such a start. -/
theorem startOfRunValues : Obligations.StartOfRunValues := by
  constructor
  · intro p a b x y sp sr m
    rfl
  · exact ⟨0xAA, 0xBB, 0xCC, 0xDD, 0xEE, 0x9F, rfl⟩

end Sys2Proof.Machine
end

section
/-! Encoding (`30_encoding.md`): an opcode byte alone says how long an instruction is and how it decodes. Every row of
the opcode table stands at the opcode of the instructions it gives; so the decoder answers only instructions with the
opcode byte it reads, and a fetch answers what the decoder reads from the three bytes at PC. -/

namespace Sys2Proof

/-! ### The opcode table -/

/-- Every instruction the row can give has the opcode byte. -/
def Row.HasOpcode (op : Byte) : Row → Prop
  | .blank => True
  | .implied i => opcodeOf i = op
  | .immediate build => ∀ imm, opcodeOf (build imm) = op
  | .absolute build => ∀ adr, opcodeOf (build adr) = op

/-- A row that is not blank gives an instruction. -/
theorem Row.HasOpcode.exists_instr {op : Byte} {r : Row} (h : r.HasOpcode op) (hlen : r.length ≠ none) :
    ∃ i, opcodeOf i = op := by
  cases r with
  | blank => exact absurd rfl hlen
  | implied i => exact ⟨i, h⟩
  | immediate build => exact ⟨build 0, h 0⟩
  | absolute build => exact ⟨build 0, h 0⟩

/-- The rows have the opcodes `n`, `n + 1`, ..., in their order. -/
def OpcodesFrom : Nat → List Row → Prop
  | _, [] => True
  | n, r :: rs => r.HasOpcode (BitVec.ofNat 8 n) ∧ OpcodesFrom (n + 1) rs

theorem OpcodesFrom.getD {n : Nat} {rows : List Row} (h : OpcodesFrom n rows) (k : Nat) :
    (rows[k]?.getD .blank).HasOpcode (BitVec.ofNat 8 (n + k)) := by
  induction rows generalizing n k with
  | nil => trivial
  | cons r rs ih =>
    obtain ⟨head, tail⟩ := h
    cases k with
    | zero => exact head
    | succ k =>
      rw [← Nat.add_assoc, Nat.add_right_comm]
      exact ih tail k

theorem opcodesFrom_append (n : Nat) (xs ys : List Row) :
    OpcodesFrom n (xs ++ ys) ↔ OpcodesFrom n xs ∧ OpcodesFrom (n + xs.length) ys := by
  induction xs generalizing n with
  | nil => simp [OpcodesFrom]
  | cons x xs ih => simp [OpcodesFrom, ih, and_assoc, Nat.add_right_comm, ← Nat.add_assoc]

theorem opcodesFrom_replicate_blank (n k : Nat) : OpcodesFrom n (List.replicate k .blank) := by
  induction k generalizing n with
  | zero => trivial
  | succ k ih => exact ⟨trivial, ih (n + 1)⟩

/-- Block by block of sixteen rows, as the table is written. -/
theorem opcodeTable_opcodesFrom : OpcodesFrom 0 opcodeTable := by
  simp only [opcodeTable, List.append_assoc, opcodesFrom_append]
  refine ⟨?_, ?_, ?_, ?_, ?_, ?_, ?_, ?_, ?_, opcodesFrom_replicate_blank _ _, opcodesFrom_replicate_blank _ _,
    opcodesFrom_replicate_blank _ _, ?_, ?_, opcodesFrom_replicate_blank _ _, ?_⟩
  all_goals
    simp only [rows0x, rows1x, rows2x, rows3x, rows4x, rows5x, rows6x, rows7x, rows8x, rows9x, rowsAx, rowsBx, rowsCx,
      rowsDx, rowsEx, rowsFx, List.length_cons, List.length_nil, List.length_replicate, Nat.reduceAdd, OpcodesFrom,
      Row.HasOpcode, true_and, and_true]
    and_intros <;> intros <;> rfl

/-- The instructions of an opcode byte's row have that opcode byte. -/
theorem rowOf_hasOpcode (op : Byte) : (rowOf op).HasOpcode op := by
  have h := opcodeTable_opcodesFrom.getD op.toNat
  rwa [Nat.zero_add, BitVec.ofNat_toNat, BitVec.setWidth_eq] at h

/-- The table's rows have the lengths that R81 gives their opcode bytes. -/
theorem length_rowOf : ∀ op : Byte, (rowOf op).length = lengthOfOpcode op := by
  decide

/-! ### The length of an instruction -/

/-- `EncodedLength` of every instruction: for each constructor the operand bytes are as many as the ranges of R81 give
its opcode byte. -/
theorem encode_wellFormed (i : Instr) : Laws.EncodedLength.Statement i := by
  cases i <;> rfl

theorem lengthOfOpcode_opcodeOf (i : Instr) : lengthOfOpcode (opcodeOf i) = some (encode i).length :=
  eq_of_beq (encode_wellFormed i)

/-- The bytes without a length are those that are no instruction's opcode. -/
theorem lengthOfOpcode_eq_none_iff (op : Byte) : lengthOfOpcode op = none ↔ ∀ i : Instr, opcodeOf i ≠ op := by
  constructor
  · rintro h i rfl
    simp [lengthOfOpcode_opcodeOf] at h
  · intro h
    by_contra hlen
    obtain ⟨i, hi⟩ := (rowOf_hasOpcode op).exists_instr (length_rowOf op ▸ hlen)
    exact h i hi

/-! ### The decoder and the fetch -/

/-- The decoder answers only an instruction of the row of the opcode byte. -/
theorem opcodeOf_of_decode {op : Byte} {bs rest : List Byte} {i : Instr} (h : decode (op :: bs) = .ok (i, rest)) :
    opcodeOf i = op := by
  have hop := rowOf_hasOpcode op
  simp only [decode] at h
  split at h <;> cases h
  · next hrow => rwa [hrow] at hop
  · next imm hrow =>
    rw [hrow] at hop
    exact hop imm
  · next lo hi hrow =>
    rw [hrow] at hop
    exact hop (joinBytes hi lo)

namespace Machine.State

theorem readBytes_succ (s : State) (a : Addr) (n : Nat) :
    (s.readBytes a (n + 1)).1 = s.memValue a :: ((s.noteRead a).readBytes (a + 1) n).1 := rfl

/-- A fetch gives an instruction exactly when the decoder reads it from the three bytes at PC. -/
theorem fetch_iff_decode (s : State) (i : Instr) :
    (∃ u, s.fetch = .ok (i, u)) ↔ ∃ rest, decode (s.readBytes s.pc 3).1 = .ok (i, rest) := by
  have hpc : s.pc + 1 + 1 = s.pc + 2 := by bv_omega
  simp only [readBytes_succ, hpc, fetch, decode, memRead]
  cases rowOf (s.memValue s.pc) <;> simp [readBytes]

end Machine.State

/-! ### The obligations -/

/-- Settles O53: the length from the bytes of each instruction, the blanks from the opcode table, and the fetch from the
decoder, which sees the bytes and nothing else of the state. -/
theorem lengthIsGivenByOpcodeAlone : Obligations.LengthIsGivenByOpcodeAlone := by
  refine ⟨lengthOfOpcode_opcodeOf, lengthOfOpcode_eq_none_iff, fun s u i h => ?_, fun s t u i hbytes h => ?_⟩
  · obtain ⟨rest, hdecode⟩ := (s.fetch_iff_decode i).mp ⟨u, h⟩
    exact opcodeOf_of_decode hdecode
  · have hdecode := (s.fetch_iff_decode i).mp ⟨u, h⟩
    rw [hbytes] at hdecode
    exact (t.fetch_iff_decode i).mpr hdecode

/-- Settles O4: the rows of the spec's vectors, each read by the decoder. -/
theorem sampleWordsDecode : Obligations.SampleWordsDecode := by
  exact ⟨rfl, rfl, rfl, rfl, rfl, rfl, rfl, rfl, rfl, rfl, rfl, rfl, rfl, rfl⟩

end Sys2Proof
end

section
/-! Jumps (`41_jump.md`): the condition on SR under which each jump is taken, and what that condition says of A and B
in a state that CMP has just left. -/

namespace Sys2Proof.Machine

/-! ### When a jump is taken -/

/-- The instruction completes and changes PC only: to the target if `p`, past the three bytes otherwise (R130). -/
def JumpsWhen (i : Instr) (s : State) (adr : Addr) (p : Prop) [Decidable p] : Prop :=
  exec i s = .next { s with pc := if p then adr else s.pc + 3 }

theorem JumpsWhen.congr {i : Instr} {s : State} {adr : Addr} {p q : Prop} [Decidable p] [Decidable q]
    (h : JumpsWhen i s adr p) (hpq : p ↔ q) : JumpsWhen i s adr q :=
  h.trans (by simp only [hpq])

theorem jumpsWhen_of_jumpIf {i : Instr} {s : State} {adr : Addr} {c : Bool} {p : Prop} [Decidable p]
    (hi : exec i s = .next (s.jumpIf c adr)) (hc : c = true ↔ p) : JumpsWhen i s adr p := by
  rw [JumpsWhen, hi, State.jumpIf, Bool.cond_eq_ite]
  simp only [hc]
  rfl

theorem jumpsWhen_of_jumpIf_not {i : Instr} {s : State} {adr : Addr} {c : Bool}
    (hi : exec i s = .next (s.jumpIf (!c) adr)) : JumpsWhen i s adr (c = false) :=
  jumpsWhen_of_jumpIf hi (Bool.not_eq_true' c).to_iff

section
variable (s : State) (adr : Addr)

theorem jo_jumpsWhen : JumpsWhen (.jo adr) s adr (s.sr[3] = true) := jumpsWhen_of_jumpIf rfl Iff.rfl
theorem jno_jumpsWhen : JumpsWhen (.jno adr) s adr (s.sr[3] = false) := jumpsWhen_of_jumpIf_not rfl
theorem js_jumpsWhen : JumpsWhen (.js adr) s adr (s.sr[2] = true) := jumpsWhen_of_jumpIf rfl Iff.rfl
theorem jns_jumpsWhen : JumpsWhen (.jns adr) s adr (s.sr[2] = false) := jumpsWhen_of_jumpIf_not rfl
theorem je_jumpsWhen : JumpsWhen (.je adr) s adr (s.sr[1] = true) := jumpsWhen_of_jumpIf rfl Iff.rfl
theorem jne_jumpsWhen : JumpsWhen (.jne adr) s adr (s.sr[1] = false) := jumpsWhen_of_jumpIf_not rfl
theorem jb_jumpsWhen : JumpsWhen (.jb adr) s adr (s.sr[0] = true) := jumpsWhen_of_jumpIf rfl Iff.rfl
theorem jnb_jumpsWhen : JumpsWhen (.jnb adr) s adr (s.sr[0] = false) := jumpsWhen_of_jumpIf_not rfl

theorem jbe_jumpsWhen : JumpsWhen (.jbe adr) s adr (s.sr[0] = true ∨ s.sr[1] = true) :=
  jumpsWhen_of_jumpIf rfl (by simp [State.cf, State.zf])

theorem ja_jumpsWhen : JumpsWhen (.ja adr) s adr (s.sr[0] = false ∧ s.sr[1] = false) :=
  jumpsWhen_of_jumpIf rfl (by simp [State.cf, State.zf])

theorem jl_jumpsWhen : JumpsWhen (.jl adr) s adr (s.sr[2] ≠ s.sr[3]) := jumpsWhen_of_jumpIf rfl bne_iff_ne

theorem jge_jumpsWhen : JumpsWhen (.jge adr) s adr (s.sr[2] = s.sr[3]) := jumpsWhen_of_jumpIf rfl beq_iff_eq

theorem jle_jumpsWhen : JumpsWhen (.jle adr) s adr (s.sr[1] = true ∨ s.sr[2] ≠ s.sr[3]) :=
  jumpsWhen_of_jumpIf rfl (by simp [State.zf, State.sf, State.of])

theorem jg_jumpsWhen : JumpsWhen (.jg adr) s adr (s.sr[1] = false ∧ s.sr[2] = s.sr[3]) :=
  jumpsWhen_of_jumpIf rfl (by simp [State.zf, State.sf, State.of])

end

/-! ### The flags of a subtraction -/

theorem subFlags_res (a b : Byte) : (subFlags a b).res = a - b := by
  have hres : (subFlags a b).res = BitVec.ofInt 8 ((a.toNat : Int) - b.toNat) := rfl
  apply BitVec.eq_of_toInt_eq
  rw [hres, BitVec.toInt_ofInt, BitVec.toInt_sub, BitVec.toInt_eq_toNat_bmod, BitVec.toInt_eq_toNat_bmod,
    Int.sub_bmod_bmod, Int.bmod_sub_bmod]

theorem subFlags_c_iff (a b : Byte) : (subFlags a b).c = true ↔ a.toNat < b.toNat := decide_eq_true_iff

theorem subFlags_z_iff (a b : Byte) : (subFlags a b).z = true ↔ a = b := by
  have hz : (subFlags a b).z = ((subFlags a b).res == 0) := rfl
  rw [hz, subFlags_res, beq_iff_eq, sub_eq_zero]

theorem subFlags_s (a b : Byte) : (subFlags a b).s = (a - b).msb := by
  have hs : (subFlags a b).s = (subFlags a b).res.msb := rfl
  rw [hs, subFlags_res]

/-- The sign of a difference of two signed bytes is the sign it has when wrapped into a byte,
corrected by the overflow. -/
theorem bmod_neg_ne_signedOverflow_iff {d : Int} (hlo : -256 < d) (hhi : d < 256) :
    decide (d.bmod 256 < 0) ≠ signedOverflow d ↔ d < 0 := by
  simp only [signedOverflow, ne_eq, ← Bool.decide_or, decide_eq_decide, Int.bmod_def]
  omega

/-- SF and OF differ exactly when the signed difference is negative (`42_alu.md` R153). -/
theorem subFlags_s_ne_o_iff (a b : Byte) : (subFlags a b).s ≠ (subFlags a b).o ↔ a.toInt < b.toInt := by
  have ho : (subFlags a b).o = signedOverflow (a.toInt - b.toInt) := rfl
  have ha : -128 ≤ a.toInt ∧ a.toInt < 128 := ⟨a.le_toInt, BitVec.toInt_lt⟩
  have hb : -128 ≤ b.toInt ∧ b.toInt < 128 := ⟨b.le_toInt, BitVec.toInt_lt⟩
  rw [subFlags_s, ho, BitVec.msb_eq_toInt, BitVec.toInt_sub, bmod_neg_ne_signedOverflow_iff (by omega) (by omega)]
  omega

/-! ### The state that CMP leaves -/

section
variable {u s : State}

/-- CMP leaves in SR the flags of A - B (`42_alu.md` R172). -/
theorem sr_of_cmp (h : exec .cmp u = .next s) : s.sr = withFlags u.sr (subFlags u.a u.b) := by
  cases h
  rfl

theorem zf_iff_of_cmp (h : exec .cmp u = .next s) : s.sr[1] = true ↔ u.a = u.b := by
  simp only [sr_of_cmp h, withFlags_bit1, subFlags_z_iff]

theorem cf_iff_of_cmp (h : exec .cmp u = .next s) : s.sr[0] = true ↔ u.a.toNat < u.b.toNat := by
  simp only [sr_of_cmp h, withFlags_bit0, subFlags_c_iff]

theorem sf_ne_of_iff_of_cmp (h : exec .cmp u = .next s) : s.sr[2] ≠ s.sr[3] ↔ u.a.toInt < u.b.toInt := by
  simp only [sr_of_cmp h, withFlags_bit2, withFlags_bit3, subFlags_s_ne_o_iff]

end

/-! ### The obligations -/

/-- Settles O46: the bytes by evaluation, the executions from when each jump is taken. -/
theorem jumpsOnOneFlag : Obligations.JumpsOnOneFlag := by
  intro s adr
  exact ⟨rfl, rfl, rfl, rfl, rfl, jo_jumpsWhen s adr, rfl, rfl, jno_jumpsWhen s adr, rfl, rfl, js_jumpsWhen s adr,
    rfl, rfl, jns_jumpsWhen s adr⟩

/-- Settles O47: after CMP, CF says that A is below B and ZF that they are equal; the other conditions follow in
linear arithmetic. -/
theorem jumpsOnUnsignedComparison : Obligations.JumpsOnUnsignedComparison := by
  intro s adr
  refine ⟨rfl, rfl, je_jumpsWhen s adr, rfl, rfl, jne_jumpsWhen s adr, rfl, rfl, jb_jumpsWhen s adr,
    rfl, rfl, jnb_jumpsWhen s adr, rfl, rfl, jbe_jumpsWhen s adr, rfl, rfl, ja_jumpsWhen s adr,
    fun u h => ?_, by simp⟩
  have hz := zf_iff_of_cmp h
  have hc := cf_iff_of_cmp h
  have hne : s.sr[1] = false ↔ u.a ≠ u.b := by rw [← Bool.not_eq_true, hz]
  have hnb : s.sr[0] = false ↔ u.b.toNat ≤ u.a.toNat := by rw [← Bool.not_eq_true, hc, Nat.not_lt]
  have hbe : s.sr[0] = true ∨ s.sr[1] = true ↔ u.a.toNat ≤ u.b.toNat := by
    rw [hc, hz, ← BitVec.toNat_inj, Nat.le_iff_lt_or_eq]
  have ha : s.sr[0] = false ∧ s.sr[1] = false ↔ u.b.toNat < u.a.toNat := by
    rw [hnb, hne, Ne, ← BitVec.toNat_inj]
    omega
  exact ⟨(je_jumpsWhen s adr).congr hz, (jne_jumpsWhen s adr).congr hne, (jb_jumpsWhen s adr).congr hc,
    (jnb_jumpsWhen s adr).congr hnb, (jbe_jumpsWhen s adr).congr hbe, (ja_jumpsWhen s adr).congr ha⟩

/-- Settles O48: after CMP, SF and OF differ exactly when A is below B as signed numbers, and ZF says that they are
equal; the other conditions follow in linear arithmetic. -/
theorem jumpsOnSignedComparison : Obligations.JumpsOnSignedComparison := by
  intro s adr
  refine ⟨rfl, rfl, jl_jumpsWhen s adr, rfl, rfl, jge_jumpsWhen s adr, rfl, rfl, jle_jumpsWhen s adr,
    rfl, rfl, jg_jumpsWhen s adr, fun u h => ?_, by simp, by simp⟩
  have hz := zf_iff_of_cmp h
  have hl := sf_ne_of_iff_of_cmp h
  have hge : s.sr[2] = s.sr[3] ↔ u.b.toInt ≤ u.a.toInt := by rw [← not_ne_iff, hl, Int.not_lt]
  have hle : s.sr[1] = true ∨ s.sr[2] ≠ s.sr[3] ↔ u.a.toInt ≤ u.b.toInt := by
    rw [hz, hl, ← BitVec.toInt_inj]
    omega
  have hg : s.sr[1] = false ∧ s.sr[2] = s.sr[3] ↔ u.b.toInt < u.a.toInt := by
    rw [← Bool.not_eq_true, hz, hge, ← BitVec.toInt_inj]
    omega
  exact ⟨(jl_jumpsWhen s adr).congr hl, (jge_jumpsWhen s adr).congr hge, (jle_jumpsWhen s adr).congr hle,
    (jg_jumpsWhen s adr).congr hg⟩

end Sys2Proof.Machine
end

section
/-! Interrupt instructions (`44_interrupt_instructions.md`): what the effects of CLI and SEI make of SR. The two differ in
the value they give IE only, so one lemma over that value says what both do. -/

namespace Sys2Proof.Machine

/-- Writing IE leaves the other seven bits of SR as they were. From bit 8 on both bytes have none. -/
theorem getLsbD_withIE_of_ne (sr : Byte) (v : Bool) {k : Nat} (hk : k ≠ 7) :
    (withIE sr v).getLsbD k = sr.getLsbD k :=
  match k with
  | 0 => withIE_bit0 sr v
  | 1 => withIE_bit1 sr v
  | 2 => withIE_bit2 sr v
  | 3 => withIE_bit3 sr v
  | 4 => withIE_bit4 sr v
  | 5 => withIE_bit5 sr v
  | 6 => withIE_bit6 sr v
  | 7 => absurd rfl hk
  | n + 8 => by
    have hn : 8 ≤ n + 8 := Nat.le_add_left 8 n
    rw [BitVec.getLsbD_of_ge _ _ hn, BitVec.getLsbD_of_ge _ _ hn]

/-- A state whose IE is set to `b` differs from `s` in SR only, and there in bit 7 only (R214, R215). -/
theorem setSR_withIE_effect (s : State) (b : Bool) :
    ∃ v : Byte, s.setSR (withIE s.sr b) = { s with sr := v } ∧ v[7] = b ∧
      ∀ k, k ≠ 7 → v.getLsbD k = s.sr.getLsbD k :=
  ⟨withIE s.sr b, rfl, withIE_bit7 s.sr b, fun _ hk => getLsbD_withIE_of_ne s.sr b hk⟩

/-! ### The obligation -/

/-- Settles O52: CLI is the write of IE with false, SEI that with true. -/
theorem cliSeiEffectOnSR : Obligations.CliSeiEffectOnSR := by
  intro s
  exact ⟨setSR_withIE_effect s false, setSR_withIE_effect s true⟩

end Sys2Proof.Machine
end

section
/-! Flag instructions (`45_flag_and_halt.md`): CLC and SEC write CF, CLO and SEO write OF. The two of a pair differ in the
value they give their flag only, so one lemma per flag, over that value, says what both do. -/

namespace Sys2Proof.Machine

/-- The bits of a byte, listed as `getLsbD_ofBits` lists those of `ofBits`. From bit 8 on there is none. -/
theorem getLsbD_eq_getD_bits (b : Byte) (k : Nat) :
    b.getLsbD k = [b[0], b[1], b[2], b[3], b[4], b[5], b[6], b[7]].getD k false :=
  match k with
  | 0 | 1 | 2 | 3 | 4 | 5 | 6 | 7 => rfl
  | n + 8 => BitVec.getLsbD_of_ge b _ (Nat.le_add_left 8 n)

/-- Writing CF leaves the other seven bits of SR as they were. -/
theorem getLsbD_withCF_of_ne (sr : Byte) (v : Bool) {k : Nat} (hk : k ≠ 0) :
    (withCF sr v).getLsbD k = sr.getLsbD k := by
  rw [withCF, getLsbD_ofBits, getLsbD_eq_getD_bits sr]
  match k with
  | 0 => exact absurd rfl hk
  | _ + 1 => rfl

/-- Writing OF leaves the other seven bits of SR as they were. -/
theorem getLsbD_withOF_of_ne (sr : Byte) (v : Bool) {k : Nat} (hk : k ≠ 3) :
    (withOF sr v).getLsbD k = sr.getLsbD k := by
  rw [withOF, getLsbD_ofBits, getLsbD_eq_getD_bits sr]
  match k with
  | 0 | 1 | 2 => rfl
  | 3 => exact absurd rfl hk
  | _ + 4 => rfl

section
variable {i : Instr} {s : State} {b : Bool}

/-- An instruction that sets CF to `b` and goes on completes, with SR changed in bit 0 only (R220, R221). -/
theorem exec_effect_of_withCF (hi : exec i s = .next ((s.setSR (withCF s.sr b)).advance 1)) :
    ∃ v : Byte, exec i s = .next { s with sr := v, pc := s.pc + 1 } ∧ v[0] = b ∧
      ∀ k, k ≠ 0 → v.getLsbD k = s.sr.getLsbD k :=
  ⟨withCF s.sr b, hi, withCF_bit0 s.sr b, fun _ hk => getLsbD_withCF_of_ne s.sr b hk⟩

/-- An instruction that sets OF to `b` and goes on completes, with SR changed in bit 3 only (R222, R223). -/
theorem exec_effect_of_withOF (hi : exec i s = .next ((s.setSR (withOF s.sr b)).advance 1)) :
    ∃ v : Byte, exec i s = .next { s with sr := v, pc := s.pc + 1 } ∧ v[3] = b ∧
      ∀ k, k ≠ 3 → v.getLsbD k = s.sr.getLsbD k :=
  ⟨withOF s.sr b, hi, withOF_bit3 s.sr b, fun _ hk => getLsbD_withOF_of_ne s.sr b hk⟩

end

/-! ### The obligation -/

/-- Settles O50: the bytes by evaluation; CLC and SEC are writes of CF, CLO and SEO writes of OF. -/
theorem flagInstructionsComplete : Obligations.FlagInstructionsComplete := by
  intro s
  exact ⟨⟨rfl, exec_effect_of_withCF rfl⟩, ⟨rfl, exec_effect_of_withCF rfl⟩,
    ⟨rfl, exec_effect_of_withOF rfl⟩, ⟨rfl, exec_effect_of_withOF rfl⟩⟩

end Sys2Proof.Machine
end

section
/-! Encoding (`30_encoding.md`), both directions: what the decoder answers at each kind of row, which bytes the
instructions of a row have, and from these that decoding and encoding undo each other. -/

namespace Sys2Proof

/-! ### What the decoder answers at a row -/

theorem Row.eq_blank_of_length {r : Row} (h : r.length = none) : r = .blank := by
  cases r with
  | blank => rfl
  | implied | immediate | absolute => cases h

section
variable {op : Byte}

theorem decode_of_blank (h : rowOf op = .blank) (rest : List Byte) :
    decode (op :: rest) = .error (.blankOpcode op) := by
  simp only [decode, h]

theorem decode_of_implied {i : Instr} (h : rowOf op = .implied i) (rest : List Byte) :
    decode (op :: rest) = .ok (i, rest) := by
  simp only [decode, h]

theorem decode_of_immediate {build : Byte → Instr} (h : rowOf op = .immediate build) (imm : Byte)
    (rest : List Byte) : decode (op :: imm :: rest) = .ok (build imm, rest) := by
  simp only [decode, h]

theorem decode_of_absolute {build : Addr → Instr} (h : rowOf op = .absolute build) (lo hi : Byte)
    (rest : List Byte) : decode (op :: lo :: hi :: rest) = .ok (build (joinBytes hi lo), rest) := by
  simp only [decode, h]

/-- The two bytes of an address give back the address. -/
theorem decode_address {build : Addr → Instr} (h : rowOf op = .absolute build) (adr : Addr) (rest : List Byte) :
    decode (op :: lowByte adr :: highByte adr :: rest) = .ok (build adr, rest) := by
  rw [decode_of_absolute h, Machine.joinBytes_high_low]

/-- The only failure at a row that is not blank is too few operand bytes. -/
theorem decode_of_short {n : Nat} {rest : List Byte} (h : (rowOf op).length = some n) (hshort : rest.length + 1 < n) :
    decode (op :: rest) = .error (.operandMissing op) := by
  cases hrow : rowOf op with
  | blank => simp [hrow, Row.length] at h
  | implied i =>
    simp only [hrow, Row.length, Option.some.injEq] at h
    omega
  | immediate build =>
    simp only [hrow, Row.length, Option.some.injEq] at h
    obtain rfl : rest = [] := List.eq_nil_of_length_eq_zero (by omega)
    simp only [decode, hrow]
  | absolute build =>
    simp only [hrow, Row.length, Option.some.injEq] at h
    match rest with
    | [] | [_] => simp only [decode, hrow]
    | _ :: _ :: _ =>
      simp only [List.length_cons] at hshort
      omega

/-- Where the row's bytes are all there the decoder gives an instruction and leaves the bytes after them. -/
theorem decode_of_present {n : Nat} {rest : List Byte} (h : (rowOf op).length = some n) (hlen : n ≤ rest.length + 1) :
    ∃ i, decode (op :: rest) = .ok (i, rest.drop (n - 1)) := by
  cases hrow : rowOf op with
  | blank => simp [hrow, Row.length] at h
  | implied i =>
    simp only [hrow, Row.length, Option.some.injEq] at h
    subst h
    exact ⟨i, decode_of_implied hrow rest⟩
  | immediate build =>
    simp only [hrow, Row.length, Option.some.injEq] at h
    subst h
    match rest with
    | imm :: rest => exact ⟨_, decode_of_immediate hrow imm rest⟩
  | absolute build =>
    simp only [hrow, Row.length, Option.some.injEq] at h
    subst h
    match rest with
    | [_] => simp at hlen
    | lo :: hi :: rest => exact ⟨_, decode_of_absolute hrow lo hi rest⟩

end

/-! ### The bytes of a row's instructions -/

/-- The operand bytes of every instruction the row can give are the ones the decoder builds it from. -/
def Row.HasOperands : Row → Prop
  | .blank => True
  | .implied i => operandBytes i = []
  | .immediate build => ∀ imm, operandBytes (build imm) = [imm]
  | .absolute build => ∀ adr, operandBytes (build adr) = [lowByte adr, highByte adr]

/-- Block by block of sixteen rows, as the table is written. -/
theorem opcodeTable_hasOperands : ∀ r ∈ opcodeTable, r.HasOperands := by
  simp only [opcodeTable, List.forall_mem_append, rows0x, rows1x, rows2x, rows3x, rows4x, rows5x, rows6x, rows7x,
    rows8x, rows9x, rowsAx, rowsBx, rowsCx, rowsDx, rowsEx, rowsFx, List.forall_mem_cons, List.mem_replicate]
  simp [Row.HasOperands, operandBytes]

theorem rowOf_hasOperands (op : Byte) : (rowOf op).HasOperands := by
  unfold rowOf
  cases hrow : opcodeTable[op.toNat]? with
  | none => trivial
  | some r => exact opcodeTable_hasOperands r (List.mem_of_getElem? hrow)

/-- What the decoder answers is an instruction whose own bytes were read, and the bytes after them. -/
theorem encode_append_of_decode {bs rest : List Byte} {i : Instr} (h : decode bs = .ok (i, rest)) :
    encode i ++ rest = bs := by
  cases bs with
  | nil => cases h
  | cons op bs =>
    have hops := rowOf_hasOperands op
    rw [encode, opcodeOf_of_decode h]
    simp only [decode] at h
    split at h <;> cases h
    · next hrow =>
      rw [hrow] at hops
      rw [hops]
      rfl
    · next imm hrow =>
      rw [hrow] at hops
      rw [hops imm]
      rfl
    · next lo hi hrow =>
      rw [hrow] at hops
      rw [hops, Machine.lowByte_joinBytes, Machine.highByte_joinBytes]
      rfl

/-- Every instruction stands in the row of its opcode byte, so the decoder reads it from its own bytes. -/
theorem decode_encode_append (i : Instr) (rest : List Byte) : decode (encode i ++ rest) = .ok (i, rest) := by
  cases i with
  | movAToImm imm | movBToImm imm | movXToImm imm | movYToImm imm | movSPToImm imm | movSRToImm imm | movAtSPToImm imm
  | movAtXYToImm imm | movImmToA imm | movImmToB imm | movImmToX imm | movImmToY imm | movImmToSP imm | movImmToSR imm
  | movImmToAtSP imm | movImmToAtXY imm | pushImm imm => exact decode_of_immediate rfl imm rest
  | movAToMem adr | movBToMem adr | movXToMem adr | movYToMem adr | movSPToMem adr | movSRToMem adr | movAtSPToMem adr
  | movAtXYToMem adr | movMemToA adr | movMemToB adr | movMemToX adr | movMemToY adr | movMemToSP adr | movMemToSR adr
  | movMemToAtSP adr | movMemToAtXY adr | pushMem adr | popMem adr | addMem adr | subMem adr | adcMem adr | lshMem adr
  | rshMem adr | orMem adr | andMem adr | xorMem adr | call adr | jmp adr | jo adr | jno adr | js adr | jns adr | je adr
  | jne adr | jb adr | jnb adr | jbe adr | ja adr | jl adr | jge adr | jle adr | jg adr =>
    exact decode_address rfl adr rest
  | _ => exact decode_of_implied rfl rest

/-! ### The obligations -/

/-- Settles O1: each instruction stands in the row of its opcode byte. -/
theorem decodeOfEncode : Obligations.DecodeOfEncode := by
  exact decode_encode_append

/-- Settles O2: the decoder builds an instruction from the operand bytes its encoding has. -/
theorem encodeOfDecode : Obligations.EncodeOfDecode := by
  intro bs i rest h
  exact encode_append_of_decode h

/-- Settles O3: the row of the opcode byte has the length of the spec's ranges, and the kind of row decides. -/
theorem lengthFollowsOpcode : Obligations.LengthFollowsOpcode := by
  intro op rest
  have hlen := length_rowOf op
  split
  · next hnone =>
    exact decode_of_blank (Row.eq_blank_of_length (hlen.trans hnone)) rest
  · next n hsome =>
    rw [hsome] at hlen
    refine ⟨decode_of_short hlen, fun hle => ?_⟩
    obtain ⟨i, hi⟩ := decode_of_present hlen hle
    have hi_length := lengthOfOpcode_opcodeOf i
    rw [opcodeOf_of_decode hi, hsome, Option.some.injEq] at hi_length
    exact ⟨i, hi, hi_length.symm⟩

end Sys2Proof
end

section
/-! Canonical memories (`10_state.md` R37; the form is the model's own): a canonical list is determined by what its
addresses read as, and every assignment of bytes to addresses is read from one. -/

namespace Sys2Proof.Machine

namespace Memory

/-- A canonical list above `l` says nothing of `l` and the addresses below it. -/
theorem lookup_of_wfAbove {l n : Nat} {m : Memory} (hm : wfAbove (some l) m = true) (hn : n ≤ l) :
    lookup m n = Config.unlistedByte := by
  induction m generalizing l with
  | nil => rfl
  | cons c m ih =>
    obtain ⟨hlt, -, -, htail⟩ := (wfAbove_cons _ _ _).mp hm
    have hc : n < c.1 := Nat.lt_of_le_of_lt hn (hlt l rfl)
    rw [lookup, if_neg hc.ne']
    exact ih htail hc.le

/-- A canonical list reads otherwise at its first address than a list whose entries all come later. -/
theorem not_lookup_eq_of_head_lt {lo : Option Nat} {c : Host.Cell} {m m' : Memory}
    (hm : wfAbove lo (c :: m) = true) (hm' : wfAbove (some c.1) m' = true) :
    ¬∀ n < 65536, lookup (c :: m) n = lookup m' n := by
  intro h
  obtain ⟨-, hlt, hne, -⟩ := (wfAbove_cons _ _ _).mp hm
  have hc := h c.1 hlt
  rw [lookup, if_pos rfl, lookup_of_wfAbove hm' le_rfl] at hc
  exact hne hc

/-- Any number below its first address bounds a canonical list. -/
theorem wfAbove_cons_of_lt {lo : Option Nat} {l : Nat} {c : Host.Cell} {m : Memory} (hl : l < c.1)
    (hm : wfAbove lo (c :: m) = true) : wfAbove (some l) (c :: m) = true := by
  obtain ⟨-, hrest⟩ := (wfAbove_cons _ _ _).mp hm
  refine (wfAbove_cons _ _ _).mpr ⟨?_, hrest⟩
  rintro _ ⟨⟩
  exact hl

/-- Canonical lists are equal when they read alike, by induction on both at once: the smaller of two different first
addresses would be seen in one list only. -/
theorem eq_of_lookup_eq {lo lo' : Option Nat} {m m' : Memory} (hm : wfAbove lo m = true) (hm' : wfAbove lo' m' = true)
    (h : ∀ n < 65536, lookup m n = lookup m' n) : m = m' := by
  induction m generalizing lo lo' m' with
  | nil =>
    cases m' with
    | nil => rfl
    | cons c' m' => exact absurd (fun n hn => (h n hn).symm) (not_lookup_eq_of_head_lt hm' rfl)
  | cons c m ih =>
    cases m' with
    | nil => exact absurd h (not_lookup_eq_of_head_lt hm rfl)
    | cons c' m' =>
      rcases Nat.lt_trichotomy c.1 c'.1 with hlt | heq | hgt
      · exact absurd h (not_lookup_eq_of_head_lt hm (wfAbove_cons_of_lt hlt hm'))
      · obtain ⟨-, hk, -, htail⟩ := (wfAbove_cons _ _ _).mp hm
        obtain ⟨-, -, -, htail'⟩ := (wfAbove_cons _ _ _).mp hm'
        have hv := h c.1 hk
        rw [lookup, if_pos rfl, lookup, if_pos heq.symm] at hv
        refine congrArg₂ _ (Prod.ext heq hv) (ih htail htail' fun n hn => ?_)
        by_cases hcn : c.1 = n
        · rw [lookup_of_wfAbove htail hcn.ge, lookup_of_wfAbove htail' (heq ▸ hcn.ge)]
        · have hn := h n hn
          rwa [lookup, if_neg hcn, lookup, if_neg (heq ▸ hcn)] at hn
      · exact absurd (fun n hn => (h n hn).symm) (not_lookup_eq_of_head_lt hm' (wfAbove_cons_of_lt hgt hm))

/-- The bytes of `f` at the addresses below `n`, written one after the other. -/
def ofFun (f : Addr → Byte) : Nat → Memory
  | 0 => []
  | n + 1 => (ofFun f n).write (BitVec.ofNat 16 n) (f (BitVec.ofNat 16 n))

theorem wf_ofFun (f : Addr → Byte) (n : Nat) : (ofFun f n).wf = true := by
  induction n with
  | zero => rfl
  | succ n ih => exact wf_write _ _ _ ih

theorem read_ofFun (f : Addr → Byte) (n : Nat) (a : Addr) (ha : a.toNat < n) : (ofFun f n).read a = f a := by
  induction n with
  | zero => exact absurd ha (Nat.not_lt_zero _)
  | succ n ih =>
    rw [ofFun, read_write]
    split
    · next heq => rw [heq]
    · next hne =>
      refine ih (Nat.lt_of_le_of_ne (Nat.le_of_lt_succ ha) fun hn => hne ?_)
      rw [← hn, BitVec.ofNat_toNat, BitVec.setWidth_eq]

end Memory

/-! ### The obligations -/

/-- Settles O13: reading every address is looking up every number below 65536. -/
theorem canonicalMemoriesAreEqual : Obligations.CanonicalMemoriesAreEqual := by
  intro m m' hm hm' h
  refine Memory.eq_of_lookup_eq hm hm' fun n hn => ?_
  have hread := h (BitVec.ofNat 16 n)
  rwa [Memory.read, Memory.read, BitVec.toNat_ofNat, Nat.mod_eq_of_lt hn] at hread

/-- Settles O14: the memory with all 65536 bytes written. -/
theorem everyInitialMemoryIsCanonical : Obligations.EveryInitialMemoryIsCanonical := by
  intro f
  exact ⟨Memory.ofFun f 65536, Memory.wf_ofFun f _, fun a => Memory.read_ofFun f _ a a.isLt⟩

/-- Settles O11: a start has the initial memory as it is given, and State.reset lists nothing. -/
theorem canonicalAtStart : Obligations.CanonicalAtStart := by
  exact ⟨fun _ _ _ _ _ _ _ _ hm => hm, Memory.wf_reset⟩

end Sys2Proof.Machine
end

section
/-! What an instruction may change: addresses, registers and bits of SR (`10_state.md` R39, R43), and what it always
keeps. Said once of each operation on the state and composed for the shared operations; one case analysis over the
instructions then gives it of all of them. -/

namespace Sys2Proof.Machine

/-- From `s` to `t` the parameters stay, bus events are only added and answered reads only counted, and a memory in
canonical form stays so. -/
structure Keeps (s t : State) : Prop where
  params : t.params = s.params
  events : ∃ new, t.busWrites = new ++ s.busWrites
  reads : s.busReads ≤ t.busReads
  canonical : MemoryCanonical s → MemoryCanonical t

theorem Keeps.refl (s : State) : Keeps s s := ⟨rfl, ⟨[], rfl⟩, le_rfl, id⟩

theorem Keeps.trans {s t u : State} (h : Keeps s t) (h' : Keeps t u) : Keeps s u where
  params := h'.params.trans h.params
  events := by
    obtain ⟨new, hnew⟩ := h.events
    obtain ⟨new', hnew'⟩ := h'.events
    exact ⟨new' ++ new, by rw [hnew', hnew, List.append_assoc]⟩
  reads := h.reads.trans h'.reads
  canonical := h'.canonical ∘ h.canonical

/-- From `s` to `t` memory changes at most at the addresses `stores` that no card answers, the registers at most those
of `regs`, SR at most in the bits of `mask`. -/
structure Changes (s t : State) (stores : List Addr) (regs : List Reg) (mask : Byte) : Prop extends Keeps s t where
  mem : ∀ adr, adr ∉ stores ∨ s.isIO adr = true → t.mem.read adr = s.mem.read adr
  reg : ∀ r ∉ regs, t.getReg r = s.getReg r
  sr : t.sr &&& ~~~mask = s.sr &&& ~~~mask

namespace Changes

section
variable {s t u : State} {stores stores' : List Addr} {regs regs' : List Reg} {mask mask' : Byte}

theorem trans (h : Changes s t stores regs mask) (h' : Changes t u stores' regs' mask') :
    Changes s u (stores ++ stores') (regs ++ regs') (mask ||| mask') where
  toKeeps := h.toKeeps.trans h'.toKeeps
  mem adr hadr := by
    rw [List.mem_append, not_or] at hadr
    rw [h'.mem adr (hadr.imp And.right (State.isIO_eq h.params ▸ ·)), h.mem adr (hadr.imp_left And.left)]
  reg r hr := by
    rw [List.mem_append, not_or] at hr
    rw [h'.reg r hr.2, h.reg r hr.1]
  sr := by
    have hleft := h.sr
    have hright := h'.sr
    rw [BitVec.not_or]
    calc u.sr &&& (~~~mask &&& ~~~mask')
      _ = (u.sr &&& ~~~mask') &&& ~~~mask := by rw [BitVec.and_comm (~~~mask), BitVec.and_assoc]
      _ = (t.sr &&& ~~~mask) &&& ~~~mask' := by
        rw [hright, BitVec.and_assoc, BitVec.and_comm (~~~mask'), BitVec.and_assoc]
      _ = s.sr &&& (~~~mask &&& ~~~mask') := by rw [hleft, BitVec.and_assoc]

theorem mono_regs (h : Changes s t stores regs mask) (hsub : regs ⊆ regs') : Changes s t stores regs' mask :=
  { h with reg := fun r hr => h.reg r fun hmem => hr (hsub hmem) }

/-- Where the memory and the bus events stay, only the registers are left to look at. -/
theorem of_mem_eq (hparams : t.params = s.params) (hmem : t.mem = s.mem) (hevents : t.busWrites = s.busWrites)
    (hreads : s.busReads ≤ t.busReads) (hreg : ∀ r ∉ regs, t.getReg r = s.getReg r)
    (hsr : t.sr &&& ~~~mask = s.sr &&& ~~~mask) : Changes s t [] regs mask where
  params := hparams
  events := ⟨[], hevents⟩
  reads := hreads
  canonical hs := by rwa [MemoryCanonical, hmem]
  mem adr _ := by rw [hmem]
  reg := hreg
  sr := hsr

end

/-! ### Operations on the state -/

variable (s : State)

theorem jump (pc : Addr) : Changes s (s.jump pc) [] [] 0x00 :=
  of_mem_eq rfl rfl rfl le_rfl (fun r _ => by cases r <;> rfl) rfl

theorem advance (n : Nat) : Changes s (s.advance n) [] [] 0x00 := jump s _

theorem halt : Changes s s.halt [] [] 0x00 :=
  of_mem_eq rfl rfl rfl le_rfl (fun r _ => by cases r <;> rfl) rfl

theorem noteRead (a : Addr) : Changes s (s.noteRead a) [] [] 0x00 :=
  of_mem_eq rfl rfl rfl (Nat.le_add_right _ _) (fun r _ => by cases r <;> rfl) rfl

theorem memWrite (a : Addr) (v : Byte) : Changes s (s.memWrite a v) [a] [] 0x00 where
  params := rfl
  events := by
    rw [State.memWrite_busWrites]
    cases s.isIO a with
    | false => exact ⟨[], rfl⟩
    | true => exact ⟨[(a, v)], rfl⟩
  reads := le_rfl
  canonical hs := Memory.wf_memWrite s a v hs
  mem adr hadr := by
    rw [State.memWrite_mem]
    cases hio : s.isIO a with
    | true => rfl
    | false =>
      refine Memory.read_write_of_ne _ _ ?_
      rintro rfl
      simp [hio] at hadr
  reg r _ := by cases r <;> rfl
  sr := rfl

/-- The bits of SR that a write of the register writes. -/
def regMask : Reg → Byte
  | .SR => 0xFF
  | .A | .B | .X | .Y | .SP => 0x00

theorem setReg (r : Reg) (v : Byte) : Changes s (s.setReg r v) [] [r] (regMask r) := by
  refine of_mem_eq (s.setReg_params r v) (s.setReg_mem r v) (s.setReg_busWrites r v) (s.setReg_busReads r v).ge
    (fun q hq => ?_) ?_
  · rw [State.getReg_setReg, if_neg (by simpa using hq)]
  · cases r with
    | SR => simp [regMask]
    | A | B | X | Y | SP => rfl

theorem push (v : Byte) : Changes s (s.push v) [s.decSP.stackAddr] [.SP] 0x00 :=
  (setReg s .SP (s.sp - 1)).trans (memWrite s.decSP _ v)

theorem pop : Changes s s.pop.2 [] [.SP] 0x00 :=
  (noteRead s s.stackAddr).trans (setReg _ .SP (s.sp + 1))

/-- A new SR that agrees with the old one in every bit outside the mask. -/
theorem setSR {mask v : Byte} (h : ∀ k, mask.getLsbD k = false → v.getLsbD k = s.sr.getLsbD k) :
    Changes s (s.setSR v) [] [.SR] mask := by
  refine of_mem_eq rfl rfl rfl le_rfl (fun r hr => (setReg s .SR v).reg r hr) ?_
  apply BitVec.eq_of_getLsbD_eq
  intro k hk
  cases hmask : mask.getLsbD k with
  | true => simp [hmask]
  | false => simp [hmask, h k hmask]

theorem setFlags (r : AluOut) : Changes s (s.setFlags r) [] [.SR] 0x0F := by
  refine setSR s fun k hk => ?_
  rw [withFlags, getLsbD_ofBits, getLsbD_eq_getD_bits s.sr]
  match k with
  | 0 | 1 | 2 | 3 => cases hk
  | _ + 4 => rfl

/-! ### Operands -/

/-- The address a write of the operand stores to. -/
def operandStores (s : State) : Operand → List Addr
  | .reg _ => []
  | .atSP => [s.stackAddr]
  | .atXY => [s.xyAddr]

/-- The register a write of the operand writes. -/
def operandRegs : Operand → List Reg
  | .reg r => [r]
  | .atSP | .atXY => []

/-- The bits of SR that a write of the operand writes. -/
def operandMask : Operand → Byte
  | .reg r => regMask r
  | .atSP | .atXY => 0x00

theorem writeOp (d : Operand) (v : Byte) :
    Changes s (s.writeOp d v) (operandStores s d) (operandRegs d) (operandMask d) := by
  cases d with
  | reg r => exact setReg s r v
  | atSP | atXY => exact memWrite s _ v

theorem readOp (d : Operand) : Changes s (s.readOp d).2 [] [] 0x00 := by
  cases d with
  | reg r => exact of_mem_eq rfl rfl rfl le_rfl (fun _ _ => rfl) rfl
  | atSP | atXY => exact noteRead s _

/-! ### The shared operations of the instructions -/

theorem moveReg (src dst : Reg) : Changes s (s.moveReg src dst) [] [dst] (regMask dst ||| 0x00) :=
  (setReg s dst _).trans (advance _ 1)

theorem moveImm (imm : Byte) (dst : Operand) :
    Changes s (s.moveImm imm dst) (operandStores s dst ++ []) (operandRegs dst ++ []) (operandMask dst ||| 0x00) :=
  (writeOp s dst imm).trans (advance _ 2)

theorem moveToMem (src : Operand) (adr : Addr) : Changes s (s.moveToMem src adr) [adr] [] 0x00 :=
  ((readOp s src).trans (memWrite _ adr _)).trans (advance _ 3)

theorem moveFromMem (adr : Addr) (dst : Operand) :
    Changes s (s.moveFromMem adr dst) (operandStores (s.noteRead adr) dst ++ []) (operandRegs dst ++ [])
      (0x00 ||| operandMask dst ||| 0x00) :=
  ((noteRead s adr).trans (writeOp _ dst _)).trans (advance _ 3)

theorem pushAdvance (v : Byte) (n : Nat) : Changes s ((s.push v).advance n) [s.decSP.stackAddr] [.SP] 0x00 :=
  (push s v).trans (advance _ n)

theorem readPush (adr : Addr) (n : Nat) :
    Changes s (((s.noteRead adr).push (s.memValue adr)).advance n) [s.decSP.stackAddr] [.SP] 0x00 :=
  (noteRead s adr).trans (pushAdvance _ _ n)

theorem popReg (r : Reg) : Changes s (s.popReg r) [] [r, .SP] (0x00 ||| regMask r ||| 0x00) :=
  (((pop s).trans (setReg _ r _)).trans (advance _ 1)).mono_regs (by simp)

theorem popStore (adr : Addr) (n : Nat) : Changes s ((s.pop.2.memWrite adr s.pop.1).advance n) [adr] [.SP] 0x00 :=
  ((pop s).trans (memWrite _ adr _)).trans (advance _ n)

theorem aluTo (r : AluOut) (dst : Operand) :
    Changes s (s.aluTo r dst) (operandStores s dst ++ [] ++ []) (operandRegs dst ++ [.SR] ++ [])
      (operandMask dst ||| 0x0F ||| 0x00) :=
  ((writeOp s dst r.res).trans (setFlags _ r)).trans (advance _ 1)

theorem aluToMem (r : AluOut) (adr : Addr) : Changes s (s.aluToMem r adr) [adr] [.SR] 0x0F :=
  ((memWrite s adr r.res).trans (setFlags _ r)).trans (advance _ 3)

theorem setCF (v : Bool) : Changes s ((s.setSR (withCF s.sr v)).advance 1) [] [.SR] 0x01 := by
  have h : Changes s (s.setSR (withCF s.sr v)) [] [.SR] 0x01 := setSR s fun k hk =>
    getLsbD_withCF_of_ne s.sr v (by rintro rfl; cases hk)
  exact h.trans (advance _ 1)

theorem setOF (v : Bool) : Changes s ((s.setSR (withOF s.sr v)).advance 1) [] [.SR] 0x08 := by
  have h : Changes s (s.setSR (withOF s.sr v)) [] [.SR] 0x08 := setSR s fun k hk =>
    getLsbD_withOF_of_ne s.sr v (by rintro rfl; cases hk)
  exact h.trans (advance _ 1)

end Changes

/-- An instruction that completes changes only what the tables list for it. -/
theorem exec_changes {i : Instr} {s t : State} (h : exec i s = .next t) :
    Changes s t (storeAddrs s i) (regsWritten i) (srBitsWritten i) := by
  cases i with
  | movAToB | movAToX | movAToY | movAToSP | movAToSR | movBToA | movBToX | movBToY | movBToSP | movBToSR
  | movXToA | movXToB | movYToA | movYToB | movSPToA | movSRToA =>
    cases h
    exact .moveReg s _ _
  | movAToImm | movBToImm | movXToImm | movYToImm | movSPToImm | movSRToImm | movAtSPToImm | movAtXYToImm => cases h
  | movImmToA imm | movImmToB imm | movImmToX imm | movImmToY imm | movImmToSP imm | movImmToSR imm
  | movImmToAtSP imm | movImmToAtXY imm =>
    cases h
    exact .moveImm s imm _
  | movAToMem adr | movBToMem adr | movXToMem adr | movYToMem adr | movSPToMem adr | movSRToMem adr
  | movAtSPToMem adr | movAtXYToMem adr =>
    cases h
    exact .moveToMem s _ adr
  | movMemToA adr | movMemToB adr | movMemToX adr | movMemToY adr | movMemToSP adr | movMemToSR adr
  | movMemToAtSP adr | movMemToAtXY adr =>
    cases h
    exact .moveFromMem s adr _
  | pushA | pushB | pushX | pushY | pushSR | pushImm =>
    cases h
    exact .pushAdvance s _ _
  | pushMem | pushAtXY =>
    cases h
    exact .readPush s _ _
  | popA | popB | popX | popY | popSR =>
    cases h
    exact .popReg s _
  | popMem | popAtXY =>
    cases h
    exact .popStore s _ _
  | addA | addB | addX | addY | addSP | addAtSP | addAtXY | subA | subB | subX | subY | subSP | subAtSP | subAtXY
  | adcA | adcB | adcX | adcY | adcSP | adcAtSP | adcAtXY | lshA | lshB | lshX | lshY | lshSP | lshAtSP | lshAtXY
  | rshA | rshB | rshX | rshY | rshSP | rshAtSP | rshAtXY | orA | orB | orX | orY | orSP | orAtSP | orAtXY
  | andA | andB | andX | andY | andSP | andAtSP | andAtXY | xorA | xorB | xorX | xorY | xorSP | xorAtSP | xorAtXY
  | inc | dec =>
    cases h
    exact .aluTo s _ _
  | addMem adr | subMem adr | adcMem adr | lshMem adr | rshMem adr | orMem adr | andMem adr | xorMem adr =>
    cases h
    exact .aluToMem s _ adr
  | cmp =>
    cases h
    exact (Changes.setFlags s _).trans (.advance _ 1)
  | call adr =>
    cases h
    exact (((Changes.push s _).trans (.push _ _)).trans (.jump _ adr)).mono_regs (by simp [regsWritten])
  | ret =>
    cases h
    exact (((Changes.pop s).trans (.pop _)).trans (.jump _ _)).mono_regs (by simp [regsWritten])
  | jmp | jo | jno | js | jns | je | jne | jb | jnb | jbe | ja | jl | jge | jle | jg =>
    cases h
    exact .jump s _
  | clc | sec =>
    cases h
    exact .setCF s _
  | clo | seo =>
    cases h
    exact .setOF s _
  | hlt =>
    cases h
    exact (Changes.advance s 1).trans (.halt _)

/-- A fetch that gives an instruction makes at most three reads. -/
theorem State.fetch_keeps {s u : State} {i : Instr} (h : s.fetch = .ok (i, u)) : Keeps s u := by
  unfold fetch at h
  simp only [memRead] at h
  split at h <;> cases h
  · exact (Changes.noteRead s _).toKeeps
  · exact ((Changes.noteRead s _).trans (.noteRead _ _)).toKeeps
  · exact (((Changes.noteRead s _).trans (.noteRead _ _)).trans (.noteRead _ _)).toKeeps

/-- A step changes nothing that no instruction changes. -/
theorem step_keeps {s t : State} (h : step s = .next t) : Keeps s t := by
  obtain ⟨-, rfl⟩ | ⟨-, i, u, hfetch, hexec⟩ := step_next h
  · exact Keeps.refl t
  · exact (State.fetch_keeps hfetch).trans (exec_changes hexec).toKeeps

/-! ### The obligations -/

/-- Settles O12: what a step keeps includes the canonical form. -/
theorem stepKeepsMemoryCanonical : Obligations.StepKeepsMemoryCanonical := by
  intro s t hs h
  exact (step_keeps h).canonical hs

/-- Settles O15: what a step keeps includes the parameters, the bus events and the count. -/
theorem stepKeepsParameters : Obligations.StepKeepsParameters := by
  intro s t h
  have keeps := step_keeps h
  exact ⟨keeps.params, keeps.events, keeps.reads⟩

/-- Settles O16: the addresses of what an instruction may change. -/
theorem memoryChangesOnlyWhereStored : Obligations.MemoryChangesOnlyWhereStored := by
  intro i s t adr h hadr
  exact (exec_changes h).mem adr hadr

/-- Settles O17: the registers of what an instruction may change. -/
theorem registersChangeOnlyAsListed : Obligations.RegistersChangeOnlyAsListed := by
  intro i s t r h hr
  exact (exec_changes h).reg r hr

/-- Settles O18: the bits of SR of what an instruction may change. -/
theorem srChangesOnlyAsListed : Obligations.SRChangesOnlyAsListed := by
  intro i s t h
  exact (exec_changes h).sr

end Sys2Proof.Machine
end

section
/-! What a step does (`60_exceptions.md` R246): the decoder's answer at PC says which instruction runs and in which
state, the opcode byte alone says whether the step goes on, faults or is refused, and only HLT halts. -/

namespace Sys2Proof.Machine

/-! ### The fetch of what the decoder reads -/

/-- What the decoder reads from the three bytes at PC is fetched, with the reads of its own bytes only. -/
theorem State.fetch_of_decode {s : State} {i : Instr} {rest : List Byte}
    (h : decode (s.readBytes s.pc 3).1 = .ok (i, rest)) :
    s.fetch = .ok (i, (s.readBytes s.pc (encode i).length).2) := by
  rw [readBytes_succ] at h
  have hlen := length_rowOf (s.memValue s.pc)
  rw [← opcodeOf_of_decode h, lengthOfOpcode_opcodeOf, opcodeOf_of_decode h] at hlen
  cases hrow : rowOf (s.memValue s.pc) with
  | blank => simp [hrow, Row.length] at hlen
  | implied j =>
    obtain hlen : 1 = (encode i).length := by simpa [hrow, Row.length] using hlen
    rw [decode_of_implied hrow] at h
    cases h
    rw [← hlen]
    simp only [fetch, memRead, hrow]
    rfl
  | immediate build =>
    obtain hlen : 2 = (encode i).length := by simpa [hrow, Row.length] using hlen
    rw [readBytes_succ, decode_of_immediate hrow] at h
    cases h
    rw [← hlen]
    simp only [fetch, memRead, hrow]
    rfl
  | absolute build =>
    obtain hlen : 3 = (encode i).length := by simpa [hrow, Row.length] using hlen
    have hpc : s.pc + 2 = s.pc + 1 + 1 := by bv_omega
    rw [readBytes_succ, readBytes_succ, decode_of_absolute hrow] at h
    cases h
    rw [← hlen]
    simp only [fetch, memRead, hrow, hpc]
    rfl

theorem step_of_fetch {s u : State} {i : Instr} (hs : s.halted = false) (h : s.fetch = .ok (i, u)) :
    step s = exec i u := by
  rw [step, hs, h]
  rfl

/-- Bytes of cells read as the cells' contents. -/
theorem State.readBytes_three_of_cells {s : State} {a : Addr} (h0 : s.isIO a = false) (h1 : s.isIO (a + 1) = false)
    (h2 : s.isIO (a + 2) = false) : (s.readBytes a 3).1 = [s.mem.read a, s.mem.read (a + 1), s.mem.read (a + 2)] := by
  have ha : a + 1 + 1 = a + 2 := by bv_omega
  simp only [readBytes, memRead_of_cell s h0, memRead_of_cell s h1, ha, memRead_of_cell s h2]

/-- A step runs what the decoder reads at PC, where no card answers the addresses of its bytes in the state itself. -/
theorem step_of_decode {s : State} {i : Instr} {rest : List Byte} (hs : s.halted = false)
    (h : decode (s.readBytes s.pc 3).1 = .ok (i, rest))
    (hcells : ∀ k, k < (encode i).length → s.isIO (s.pc + BitVec.ofNat 16 k) = false) : step s = exec i s := by
  rw [step_of_fetch hs (State.fetch_of_decode h), State.readBytes_of_cells s s.pc _ hcells]

/-- The same where all three addresses are cells: an instruction is no longer than the bytes it is read from. -/
theorem step_of_decode_cells {s : State} {i : Instr} {rest : List Byte} (hs : s.halted = false)
    (h0 : s.isIO s.pc = false) (h1 : s.isIO (s.pc + 1) = false) (h2 : s.isIO (s.pc + 2) = false)
    (h : decode [s.mem.read s.pc, s.mem.read (s.pc + 1), s.mem.read (s.pc + 2)] = .ok (i, rest)) :
    step s = exec i s := by
  have hlen : (encode i).length ≤ 3 := by
    have hbytes := congrArg List.length (encode_append_of_decode h)
    simp only [List.length_append, List.length_cons, List.length_nil] at hbytes
    omega
  rw [← State.readBytes_three_of_cells h0 h1 h2] at h
  refine step_of_decode hs h fun k hk => ?_
  match k, Nat.lt_of_lt_of_le hk hlen with
  | 0, _ => simpa using h0
  | 1, _ => exact h1
  | 2, _ => exact h2

/-! ### The bytes that are placed -/

/-- No card answers the addresses of the bytes that are placed. -/
theorem State.placeBytes_isIO (s : State) (vs : List Byte) {k : Nat} (hk : k < vs.length) :
    (s.placeBytes vs).isIO (s.pc + BitVec.ofNat 16 k) = false := by
  simp only [isIO, placeBytes, List.contains_eq_mem, decide_eq_false_iff_not, List.mem_filter, not_and]
  intro _ hfree
  simp only [Bool.not_eq_true', decide_eq_false_iff_not, List.mem_map, List.mem_range, not_exists, not_and] at hfree
  exact hfree k hk rfl

/-- Three bytes stored at ascending wrapping addresses are read there. -/
theorem read_storeBytes_three (m : Memory) (a : Addr) (b0 b1 b2 : Byte) :
    (State.storeBytes m a [b0, b1, b2]).read a = b0 ∧ (State.storeBytes m a [b0, b1, b2]).read (a + 1) = b1 ∧
      (State.storeBytes m a [b0, b1, b2]).read (a + 2) = b2 := by
  have h01 : a ≠ a + 1 := by bv_omega
  have h02 : a ≠ a + 1 + 1 := by bv_omega
  have h12 : a + 1 ≠ a + 1 + 1 := by bv_omega
  have h2 : a + 2 = a + 1 + 1 := by bv_omega
  have hstore : State.storeBytes m a [b0, b1, b2] = ((m.write a b0).write (a + 1) b1).write (a + 1 + 1) b2 := rfl
  rw [hstore, h2, Memory.read_write_of_ne _ _ h02, Memory.read_write_of_ne _ _ h01, Memory.read_write_of_ne _ _ h12]
  exact ⟨Memory.read_write_self _ _ _, Memory.read_write_self _ _ _, Memory.read_write_self _ _ _⟩

/-! ### The outcome of an instruction -/

/-- The opcode bytes of the moves into an immediate (`40_move.md` R111). -/
def IntoImmediate (op : Byte) : Prop := 0x10 ≤ op.toNat ∧ op.toNat ≤ 0x17

/-- The moves into an immediate are refused with their opcode byte, every other instruction completes. -/
theorem exec_outcome (i : Instr) (s : State) :
    (IntoImmediate (opcodeOf i) ∧ exec i s = .refused (.immediateDestination (opcodeOf i))) ∨
      (¬IntoImmediate (opcodeOf i) ∧ ∃ t, exec i s = .next t) := by
  cases i with
  | movAToImm | movBToImm | movXToImm | movYToImm | movSPToImm | movSRToImm | movAtSPToImm | movAtXYToImm =>
    exact .inl ⟨by simp [IntoImmediate, opcodeOf], rfl⟩
  | _ => exact .inr ⟨by simp [IntoImmediate, opcodeOf], _, rfl⟩

/-- The blanks of R91 are the opcode bytes without a length in R81. -/
theorem lengthOfOpcode_eq_none_iff_blank (op : Byte) : lengthOfOpcode op = none ↔ blankOpcode op = true := by
  rw [lengthOfOpcode]
  cases hblank : blankOpcode op with
  | true => exact iff_of_true (if_pos rfl) rfl
  | false =>
    rw [if_neg Bool.false_ne_true]
    refine iff_of_false ?_ Bool.false_ne_true
    split_ifs <;> exact not_false

theorem State.fetch_of_blank {s : State} (h : blankOpcode (s.memValue s.pc) = true) :
    s.fetch = .error (s.memValue s.pc) := by
  have hlen := (length_rowOf _).trans ((lengthOfOpcode_eq_none_iff_blank _).mpr h)
  simp only [fetch, memRead, Row.eq_blank_of_length hlen]

/-- The fetch of an assigned opcode byte gives an instruction with that opcode byte. -/
theorem State.fetch_of_assigned {s : State} (h : blankOpcode (s.memValue s.pc) = false) :
    ∃ i u, s.fetch = .ok (i, u) ∧ opcodeOf i = s.memValue s.pc := by
  have hop := rowOf_hasOpcode (s.memValue s.pc)
  cases hrow : rowOf (s.memValue s.pc) with
  | blank =>
    have hlen := length_rowOf (s.memValue s.pc)
    rw [hrow] at hlen
    rw [(lengthOfOpcode_eq_none_iff_blank _).mp hlen.symm] at h
    cases h
  | implied | immediate | absolute =>
    rw [hrow] at hop
    simp only [fetch, memRead, hrow]
    exact ⟨_, _, rfl, by apply hop⟩

/-- No opcode of a move into an immediate is blank. -/
theorem IntoImmediate.not_blank {op : Byte} (h : IntoImmediate op) : blankOpcode op = false := by
  unfold IntoImmediate at h
  simp only [blankOpcode, Bool.or_eq_false_iff, Bool.and_eq_false_iff, beq_eq_false_iff_ne, decide_eq_false_iff_not]
  omega

/-- No instruction but HLT writes whether the processor is halted. -/
theorem exec_halted {i : Instr} {s t : State} (h : exec i s = .next t) :
    t.halted = true ↔ s.halted = true ∨ i = .hlt := by
  cases i with
  | hlt =>
    cases h
    exact iff_of_true rfl (.inr rfl)
  | movAToImm | movBToImm | movXToImm | movYToImm | movSPToImm | movSRToImm | movAtSPToImm | movAtXYToImm => cases h
  | _ =>
    cases h
    exact (or_iff_left nofun).symm

/-! ### The obligations -/

/-- Settles O6: the fetch by the opcode byte, then the outcome of an instruction with that opcode byte. -/
theorem stepOutcomeFollowsOpcodeByte : Obligations.StepOutcomeFollowsOpcodeByte := by
  intro s hs
  refine ⟨fun hblank => ?_, fun himm => ?_, fun hassigned himm => ?_⟩
  · rw [step, hs, State.fetch_of_blank hblank]
    rfl
  · obtain ⟨i, u, hfetch, hop⟩ := State.fetch_of_assigned (IntoImmediate.not_blank himm)
    rw [step_of_fetch hs hfetch, ← hop]
    exact (exec_outcome i u).elim And.right fun h => absurd (hop ▸ himm) h.1
  · obtain ⟨i, u, hfetch, hop⟩ := State.fetch_of_assigned hassigned
    rw [RunsOn, step_of_fetch hs hfetch]
    exact (exec_outcome i u).elim (fun h => absurd (hop ▸ h.1) himm) And.right

/-- Settles O8: what each instruction does to `halted`. -/
theorem onlyHltHalts : Obligations.OnlyHltHalts := by
  intro i s t h
  exact exec_halted h

/-- Settles O9: the three bytes stand at PC, where no card answers, and the decoder reads the instruction from them. -/
theorem placedWordIsRunNext : Obligations.PlacedWordIsRunNext := by
  intro s nbits w i h
  obtain ⟨rest, hdecode⟩ : ∃ rest, decode (tableWordBytes nbits w) = .ok (i, rest) := by
    unfold decodeTableWord at h
    split at h <;> cases h
    exact ⟨_, ‹_›⟩
  have hio {k : Nat} (hk : k < 3) := s.placeBytes_isIO (tableWordBytes nbits w) hk
  obtain ⟨h0, h1, h2⟩ := read_storeBytes_three s.mem s.pc _ _ _
  have hio0 : (s.placeBytes (tableWordBytes nbits w)).isIO s.pc = false := by simpa using hio (k := 0) (by decide)
  refine step_of_decode_cells rfl hio0 (hio (k := 1) (by decide))
    (hio (k := 2) (by decide)) (rest := rest) ?_
  rw [← hdecode]
  exact congrArg decode (congrArg₂ _ h0 (congrArg₂ _ h1 (congrArg₂ _ h2 rfl)))

/-- Settles O5: the fetch of what the decoder reads. -/
theorem stepRunsDecodedInstruction : Obligations.StepRunsDecodedInstruction := by
  intro s i rest hs
  exact ⟨fun h => ⟨step_of_fetch hs (State.fetch_of_decode h), step_of_decode hs h⟩, step_of_decode_cells hs⟩

/-- Settles O7: the first branch of the step. -/
theorem haltedStepStays : Obligations.HaltedStepStays := by
  intro s hs
  rw [step, if_pos hs]

end Sys2Proof.Machine
end

section
/-! The moves (`40_move.md`), HLT, and the stack and procedures (`43_stack_procedures.md`). Whatever stores a byte ends
in one `MemWrite`, so one lemma says that it stores exactly that byte. -/

namespace Sys2Proof.Machine

/-! ### Storing one byte -/

/-- An instruction that, after reads and a move of SP have led to `w`, stores `v` at `adr` and sets PC, stores exactly
that byte and leaves all else as in `w`. -/
theorem completesStoring_of_memWrite {i : Instr} {s w : State} {adr pc : Addr} {v : Byte}
    (hexec : exec i s = .next ((w.memWrite adr v).jump pc)) (hparams : s.params = w.params) (hmem : s.mem = w.mem)
    (hevents : s.busWrites = w.busWrites) : CompletesStoring i s { w with pc := pc } adr v :=
  ⟨_, hexec, storedByte_congr (w.memWrite_storedByte adr v) hparams hmem hevents rfl rfl, rfl⟩

section
variable {i : Instr} {s : State} {adr pc : Addr} {v : Byte}

/-- Storing at once. -/
theorem completesStoring_at_once (h : exec i s = .next ((s.memWrite adr v).jump pc)) :
    CompletesStoring i s { s with pc := pc } adr v :=
  completesStoring_of_memWrite h rfl rfl rfl

/-- Storing after a read. -/
theorem completesStoring_of_read {a : Addr} (h : exec i s = .next (((s.noteRead a).memWrite adr v).jump pc)) :
    CompletesStoring i s { s with pc := pc, busReads := s.busReads + (s.isIO a).toNat } adr v :=
  completesStoring_of_memWrite (w := s.noteRead a) h rfl rfl rfl

/-- Pushing at once. -/
theorem completesStoring_of_push (h : exec i s = .next ((s.push v).jump pc)) :
    CompletesStoring i s { s with sp := s.sp - 1, pc := pc } s.decSP.stackAddr v :=
  completesStoring_of_memWrite (w := s.decSP) h rfl rfl rfl

/-- Pushing after a read. -/
theorem completesStoring_of_read_push {a : Addr} (h : exec i s = .next (((s.noteRead a).push v).jump pc)) :
    CompletesStoring i s { s with sp := s.sp - 1, pc := pc, busReads := s.busReads + (s.isIO a).toNat }
      s.decSP.stackAddr v :=
  completesStoring_of_memWrite (w := (s.noteRead a).decSP) h rfl rfl rfl

/-- Storing after a pop. -/
theorem completesStoring_of_pop (h : exec i s = .next ((s.pop.2.memWrite adr v).jump pc)) :
    CompletesStoring i s
      { s with sp := s.sp + 1, pc := pc, busReads := s.busReads + (s.isIO s.stackAddr).toNat } adr v :=
  completesStoring_of_memWrite (w := s.pop.2) h rfl rfl rfl

end

/-! ### The stack -/

namespace State

variable (s : State)

/-- Pop after push gives the byte back and undoes the move of SP. -/
theorem pop_push (v : Byte) (hio : s.isIO s.decSP.stackAddr = false) :
    (s.push v).pop = (v, { s with mem := (s.push v).mem }) := by
  rw [pop_eq, push_isIO, push_stackAddr, hio]
  have hvalue : (s.push v).memValue s.decSP.stackAddr = v := by
    simp [memValue, hio]
  have hsp : (s.push v).sp + 1 = s.sp := by
    simp
  rw [hvalue, hsp]
  simp [push, memWrite, hio]

/-- The two stack addresses of a CALL are different, SP wrapping too. -/
theorem decSP_stackAddr_ne : s.decSP.stackAddr ≠ s.decSP.decSP.stackAddr := by
  intro h
  have hsp : s.sp - 1 = s.sp - 1 - 1 := (joinBytes_inj h).2
  bv_omega

/-- What a push stores where no card answers. -/
theorem read_push_self (v : Byte) (hio : s.isIO s.decSP.stackAddr = false) :
    (s.push v).mem.read s.decSP.stackAddr = v :=
  ((s.push_storedByte v).1 hio).2.1

theorem read_push_of_ne (v : Byte) {a : Addr} (hio : s.isIO s.decSP.stackAddr = false) (ha : a ≠ s.decSP.stackAddr) :
    (s.push v).mem.read a = s.mem.read a :=
  ((s.push_storedByte v).1 hio).2.2 a ha

end State

/-! ### CALL and RET -/

/-- The state after CALL: the return address pushed, high byte first, and PC at the target (R199). -/
def State.called (s : State) (adr : Addr) : State :=
  ((s.push (highByte (s.pc + 3))).push (lowByte (s.pc + 3))).jump adr

theorem exec_call (s : State) (adr : Addr) : exec (.call adr) s = .next (s.called adr) := rfl

theorem State.called_frame (s : State) (adr : Addr) :
    s.called adr =
      { s with sp := s.sp - 2, pc := adr, mem := (s.called adr).mem, busWrites := (s.called adr).busWrites } := by
  have hsp : s.sp - 1 - 1 = s.sp - 2 := by bv_omega
  rw [← hsp]
  rfl

/-- Where no card answers the two addresses there is no bus event either. -/
theorem State.called_frame_of_cells (s : State) (adr : Addr) (hio : s.isIO s.decSP.stackAddr = false)
    (hio' : s.isIO s.decSP.decSP.stackAddr = false) :
    s.called adr = { s with sp := s.sp - 2, pc := adr, mem := (s.called adr).mem } := by
  have hevents : (s.called adr).busWrites = s.busWrites :=
    calc (s.called adr).busWrites
      _ = (s.push (highByte (s.pc + 3))).busWrites := (((s.push _).push_storedByte _).1 hio').1
      _ = s.busWrites := ((s.push_storedByte _).1 hio).1
  rw [← hevents]
  exact s.called_frame adr

/-- The cells at the two lowered stack addresses hold the return address. -/
theorem State.called_read (s : State) (adr : Addr) (hio : s.isIO s.decSP.stackAddr = false)
    (hio' : s.isIO s.decSP.decSP.stackAddr = false) :
    (s.called adr).mem.read s.decSP.stackAddr = highByte (s.pc + 3) ∧
      (s.called adr).mem.read s.decSP.decSP.stackAddr = lowByte (s.pc + 3) := by
  constructor
  · calc (s.called adr).mem.read s.decSP.stackAddr
      _ = (s.push (highByte (s.pc + 3))).mem.read s.decSP.stackAddr :=
        (s.push (highByte (s.pc + 3))).read_push_of_ne _ hio' s.decSP_stackAddr_ne
      _ = highByte (s.pc + 3) := s.read_push_self _ hio
  · exact (s.push (highByte (s.pc + 3))).read_push_self _ hio'

/-- RET (R200), with the two bytes as they are read. -/
theorem exec_ret (s : State) :
    exec .ret s = .next { s with
      pc := joinBytes (s.pop.2.memValue s.pop.2.stackAddr) (s.memValue s.stackAddr), sp := s.sp + 2,
      busReads := s.busReads + (s.isIO s.stackAddr).toNat + (s.isIO s.incSP.stackAddr).toNat } := by
  have hsp : s.sp + 1 + 1 = s.sp + 2 := by bv_omega
  rw [← hsp]
  rfl

theorem exec_ret_of_cells (s : State) (hio : s.isIO s.stackAddr = false) (hio' : s.isIO s.incSP.stackAddr = false) :
    exec .ret s = .next { s with
      pc := joinBytes (s.mem.read s.incSP.stackAddr) (s.mem.read s.stackAddr), sp := s.sp + 2 } := by
  have hpop : s.pop = (s.mem.read s.stackAddr, s.incSP) := by rw [State.pop, s.memRead_of_cell hio]
  have hlo : s.memValue s.stackAddr = s.mem.read s.stackAddr := congrArg Prod.fst (s.memRead_of_cell hio)
  have hhi : s.incSP.memValue s.incSP.stackAddr = s.mem.read s.incSP.stackAddr :=
    congrArg Prod.fst (s.incSP.memRead_of_cell hio')
  rw [exec_ret, hpop, hlo, hhi, hio, hio']
  rfl

/-- RET goes to the address that the two cells at the top of the stack hold. -/
theorem exec_ret_to {s : State} {adr : Addr} (hio : s.isIO s.stackAddr = false)
    (hio' : s.isIO s.incSP.stackAddr = false) (hlow : s.mem.read s.stackAddr = lowByte adr)
    (hhigh : s.mem.read s.incSP.stackAddr = highByte adr) :
    exec .ret s = .next { s with pc := adr, sp := s.sp + 2 } := by
  rw [exec_ret_of_cells s hio hio', hlow, hhigh, joinBytes_high_low]

/-- RET with SP two lower and the return address in the cells there: on at the return address, SP as before
the CALL. -/
theorem exec_ret_of_return_address (s : State) (m : Memory) (pc' : Addr) (hio : s.isIO s.decSP.stackAddr = false)
    (hio' : s.isIO s.decSP.decSP.stackAddr = false) (hhigh : m.read s.decSP.stackAddr = highByte (s.pc + 3))
    (hlow : m.read s.decSP.decSP.stackAddr = lowByte (s.pc + 3)) :
    exec .ret { s with sp := s.sp - 2, pc := pc', mem := m } = .next { s with pc := s.pc + 3, mem := m } := by
  have hsp : s.sp - 2 + 2 = s.sp := BitVec.sub_add_cancel _ _
  have hlo : joinBytes s.params.stackPage (s.sp - 2) = s.decSP.decSP.stackAddr :=
    congrArg (joinBytes s.params.stackPage) (show s.sp - 2 = s.sp - 1 - 1 by bv_omega)
  have hhi : joinBytes s.params.stackPage (s.sp - 2 + 1) = s.decSP.stackAddr :=
    congrArg (joinBytes s.params.stackPage) (show s.sp - 2 + 1 = s.sp - 1 by bv_omega)
  have hret := exec_ret_to (s := { s with sp := s.sp - 2, pc := pc', mem := m }) ((congrArg s.isIO hlo).trans hio')
    ((congrArg s.isIO hhi).trans hio) ((congrArg m.read hlo).trans hlow) ((congrArg m.read hhi).trans hhigh)
  simpa only [hsp] using hret

/-! ### The obligations -/

/-- Settles O20: both addresses join two bytes. -/
theorem addressesFromRegisters : Obligations.AddressesFromRegisters := by
  intro s
  exact ⟨joinBytes_toNat _ _, joinBytes_toNat _ _⟩

/-- Settles O21: each is the copy of one register (R112). -/
theorem movRegisterToRegister : Obligations.MovRegisterToRegister := by
  intro s
  exact ⟨rfl, rfl, rfl, rfl, rfl, rfl, rfl, rfl, rfl, rfl, rfl, rfl, rfl, rfl, rfl, rfl⟩

/-- Settles O22: each of the eight is the refusal with its own byte (R111). -/
theorem movToImmediateIsRefused : Obligations.MovToImmediateIsRefused := by
  intro s imm
  exact ⟨rfl, rfl, rfl, rfl, rfl, rfl, rfl, rfl⟩

/-- Settles O23: each is the write of one register (R113). -/
theorem movImmediateToRegister : Obligations.MovImmediateToRegister := by
  intro s imm
  exact ⟨rfl, rfl, rfl, rfl, rfl, rfl⟩

/-- Settles O24: both store at once. -/
theorem movImmediateToMemory : Obligations.MovImmediateToMemory := by
  intro s imm
  exact ⟨completesStoring_at_once rfl, completesStoring_at_once rfl⟩

/-- Settles O25: the six registers are stored at once, the two memory operands after their read. -/
theorem movToAbsoluteAddress : Obligations.MovToAbsoluteAddress := by
  intro s adr
  exact ⟨completesStoring_at_once rfl, completesStoring_at_once rfl, completesStoring_at_once rfl,
    completesStoring_at_once rfl, completesStoring_at_once rfl, completesStoring_at_once rfl,
    completesStoring_of_read rfl, completesStoring_of_read rfl⟩

/-- Settles O26: each is a read and the write of one register (R115). -/
theorem movFromAbsoluteAddressToRegister : Obligations.MovFromAbsoluteAddressToRegister := by
  intro s adr
  exact ⟨rfl, rfl, rfl, rfl, rfl, rfl⟩

/-- Settles O27: both store after the read. -/
theorem movFromAbsoluteAddressToMemory : Obligations.MovFromAbsoluteAddressToMemory := by
  intro s adr
  exact ⟨completesStoring_of_read rfl, completesStoring_of_read rfl⟩

/-- Settles O28: registers and the immediate are pushed at once, the two memory operands after their read. -/
theorem pushCompletes : Obligations.PushCompletes := by
  intro s imm adr
  exact ⟨completesStoring_of_push rfl, completesStoring_of_push rfl, completesStoring_of_push rfl,
    completesStoring_of_push rfl, completesStoring_of_push rfl, completesStoring_of_push rfl,
    completesStoring_of_read_push rfl, completesStoring_of_read_push rfl⟩

/-- Settles O29: each is a pop and the write of one register (R196). -/
theorem popToRegisterCompletes : Obligations.PopToRegisterCompletes := by
  intro s
  exact ⟨rfl, rfl, rfl, rfl, rfl⟩

/-- Settles O30: both store after the pop. -/
theorem popToMemoryCompletes : Obligations.PopToMemoryCompletes := by
  intro s adr
  exact ⟨completesStoring_of_pop rfl, completesStoring_of_pop rfl⟩

/-- Settles O31: the byte is read where it was pushed. -/
theorem popUndoesPush : Obligations.PopUndoesPush := by
  intro s v hio
  exact s.pop_push v hio

/-- Settles O32: the state between the two pushes is the one after the first. -/
theorem callCompletes : Obligations.CallCompletes := by
  intro s adr
  exact ⟨s.push (highByte (s.pc + 3)), s.called adr, exec_call s adr, s.push_storedByte _, s.push_frame _,
    (s.push (highByte (s.pc + 3))).push_storedByte _, s.called_frame adr, s.called_read adr⟩

/-- Settles O33: RET with the bytes as read, and with the cells' contents. -/
theorem retCompletes : Obligations.RetCompletes := by
  intro s
  exact ⟨exec_ret s, exec_ret_of_cells s⟩

/-- Settles O34: RET pops at the two addresses where CALL has stored the return address. -/
theorem retReturnsFromCall : Obligations.RetReturnsFromCall := by
  intro s t adr pc' hio hio' h
  cases (exec_call s adr).symm.trans h
  obtain ⟨hhigh, hlow⟩ := s.called_read adr hio hio'
  have hframe := s.called_frame_of_cells adr hio hio'
  generalize (s.called adr).mem = m at hhigh hlow hframe
  rw [hframe]
  exact exec_ret_of_return_address s m pc' hio hio' hhigh hlow

/-- Settles O51: PC past HLT, then the halt. -/
theorem hltCompletes : Obligations.HltCompletes := by
  intro s
  rfl

end Sys2Proof.Machine
end

section
/-! The ALU (`42_alu.md`): what each operation computes, as results and flags of the operand bytes, and that each of the
eight destinations writes the result, the four flags and PC and nothing else. -/

namespace Sys2Proof.Machine

/-! ### The destinations -/

/-- A register destination that is not SR, which no ALU instruction has. -/
theorem completesAluToRegister_of_aluTo {i : Instr} {s : State} {d : Reg} {r : AluOut} (hd : d ≠ .SR)
    (hexec : exec i s = .next (s.aluTo r (.reg d))) : CompletesAluToRegister i s d r := by
  have hsr : (s.aluTo r (.reg d)).sr = withFlags s.sr r := by
    cases d with
    | SR => exact absurd rfl hd
    | A | B | X | Y | SP => rfl
  refine ⟨_, hexec, hsr ▸ withFlags_flagsWritten s.sr r, ?_⟩
  cases d with
  | SR => exact absurd rfl hd
  | A | B | X | Y | SP => rfl

theorem completesAluToMemory_of_memWrite {i : Instr} {s : State} {adr : Addr} {n : Nat} {r : AluOut}
    (hexec : exec i s = .next (((s.memWrite adr r.res).setFlags r).advance n)) :
    CompletesAluToMemory i s adr (BitVec.ofNat 16 n) r :=
  ⟨_, hexec, withFlags_flagsWritten s.sr r, s.memWrite_storedByte adr r.res, rfl⟩

/-- The eight destinations of one operation. -/
theorem completesAluGroup_of_exec {toA toB toX toY toSP toAtSP toAtXY : Instr} {toMem : Addr → Instr} {s : State}
    {r : AluOut} (hA : exec toA s = .next (s.aluTo r (.reg .A))) (hB : exec toB s = .next (s.aluTo r (.reg .B)))
    (hX : exec toX s = .next (s.aluTo r (.reg .X))) (hY : exec toY s = .next (s.aluTo r (.reg .Y)))
    (hSP : exec toSP s = .next (s.aluTo r (.reg .SP))) (hMem : ∀ adr, exec (toMem adr) s = .next (s.aluToMem r adr))
    (hAtSP : exec toAtSP s = .next (s.aluTo r .atSP)) (hAtXY : exec toAtXY s = .next (s.aluTo r .atXY)) :
    CompletesAluGroup toA toB toX toY toSP toMem toAtSP toAtXY s r :=
  ⟨completesAluToRegister_of_aluTo (by decide) hA, completesAluToRegister_of_aluTo (by decide) hB,
    completesAluToRegister_of_aluTo (by decide) hX, completesAluToRegister_of_aluTo (by decide) hY,
    completesAluToRegister_of_aluTo (by decide) hSP, fun adr => completesAluToMemory_of_memWrite (hMem adr),
    completesAluToMemory_of_memWrite hAtSP, completesAluToMemory_of_memWrite hAtXY⟩

theorem byte_toInt_bounds (a : Byte) : -128 ≤ a.toInt ∧ a.toInt < 128 := ⟨a.le_toInt, BitVec.toInt_lt⟩

/-! ### What the operations compute -/

/-- `aluOut` at a result written otherwise, with ZF as the statement that the result is 0. -/
theorem aluOut_eq {res res' : Byte} {c c' o o' : Bool} {z : Prop} [Decidable z] (hres : res = res') (hc : c = c')
    (ho : o = o') (hz : res' = 0 ↔ z) :
    aluOut res c o = { res := res', c := c', z := decide z, s := res'[7], o := o' } := by
  subst hres hc ho
  rw [aluOut, beq_eq_decide]
  simp only [hz]

theorem signedOverflow_eq (d : Int) : signedOverflow d = decide (d < -128 ∨ 127 < d) :=
  (Bool.decide_or _ _).symm

theorem addFlags_eq (a b : Byte) (cin : Bool) {z : Prop} [Decidable z]
    (hz : a + b + BitVec.ofNat 8 cin.toNat = 0 ↔ z) :
    addFlags a b cin =
      { res := a + b + BitVec.ofNat 8 cin.toNat, c := decide (256 ≤ a.toNat + b.toNat + cin.toNat), z := decide z,
        s := (a + b + BitVec.ofNat 8 cin.toNat)[7],
        o := decide (a.toInt + b.toInt + cin.toNat < -128 ∨ 127 < a.toInt + b.toInt + cin.toNat) } := by
  refine aluOut_eq ?_ rfl (signedOverflow_eq _) hz
  rw [BitVec.ofNat_add, BitVec.ofNat_add, BitVec.ofNat_toNat, BitVec.ofNat_toNat, BitVec.setWidth_eq,
    BitVec.setWidth_eq]

theorem subFlags_eq (a b : Byte) {z : Prop} [Decidable z] (hz : a - b = 0 ↔ z) :
    subFlags a b =
      { res := a - b, c := decide (a.toNat < b.toNat), z := decide z, s := (a - b)[7],
        o := decide (a.toInt - b.toInt < -128 ∨ 127 < a.toInt - b.toInt) } :=
  aluOut_eq (subFlags_res a b) rfl (signedOverflow_eq _) hz

theorem logicFlags_eq (res : Byte) :
    logicFlags res = { res := res, c := false, z := decide (res = 0), s := res[7], o := false } :=
  aluOut_eq rfl rfl rfl Iff.rfl

/-- CF of LSH is bit 8 of the wide value (R155), which is bit `8 - b` of A. -/
theorem lshFlags_c (a b : Byte) :
    (a.toNat * 2 ^ b.toNat / 256 % 2 == 1) =
      if 1 ≤ b.toNat ∧ b.toNat ≤ 8 then a.getLsbD (8 - b.toNat) else false := by
  have hbit : (a.toNat * 2 ^ b.toNat / 256 % 2 == 1) = (a.toNat * 2 ^ b.toNat).testBit 8 := by
    rw [Nat.testBit_eq_decide_div_mod_eq]
    rfl
  rw [hbit, Nat.testBit_mul_two_pow, ← BitVec.getLsbD]
  by_cases h8 : b.toNat ≤ 8
  · by_cases h1 : 1 ≤ b.toNat
    · rw [if_pos ⟨h1, h8⟩, decide_eq_true h8, Bool.true_and]
    · rw [if_neg (h1 ·.1), BitVec.getLsbD_of_ge a _ (by omega), Bool.and_false]
  · rw [if_neg (h8 ·.2), decide_eq_false h8, Bool.false_and]

theorem lshFlags_eq (a b : Byte) :
    lshFlags a b =
      { res := a <<< b.toNat, c := if 1 ≤ b.toNat ∧ b.toNat ≤ 8 then a.getLsbD (8 - b.toNat) else false,
        z := decide (a <<< b.toNat = 0), s := (a <<< b.toNat)[7], o := false } := by
  refine aluOut_eq ?_ (lshFlags_c a b) rfl Iff.rfl
  rw [← Nat.shiftLeft_eq]
  rfl

theorem rshFlags_eq (a b : Byte) :
    rshFlags a b =
      { res := a >>> b.toNat, c := false, z := decide (a >>> b.toNat = 0), s := (a >>> b.toNat)[7], o := false } := by
  refine aluOut_eq ?_ rfl rfl Iff.rfl
  apply BitVec.eq_of_toNat_eq
  have hlt : a.toNat / 2 ^ b.toNat < 2 ^ 8 := (Nat.div_le_self _ _).trans_lt a.isLt
  rw [BitVec.toNat_ofNat, Nat.mod_eq_of_lt hlt, BitVec.toNat_ushiftRight, Nat.shiftRight_eq_div_pow]

/-- The flags of INC at the one byte each is about (R173). -/
theorem incFlags_eq (a : Byte) :
    addFlags a 0x01 false =
      { res := a + 1, c := decide (a = 0xFF), z := decide (a = 0xFF), s := (a + 1)[7], o := decide (a = 0x7F) } := by
  refine aluOut_eq ?_ ?_ ?_ ?_
  · rw [BitVec.ofNat_add, BitVec.ofNat_add, BitVec.ofNat_toNat, BitVec.setWidth_eq]
    exact BitVec.add_zero _
  · rw [decide_eq_decide]
    change 256 ≤ a.toNat + 1 + 0 ↔ _
    bv_omega
  · rw [signedOverflow_eq, decide_eq_decide, ← BitVec.toInt_inj]
    change a.toInt + 1 + 0 < -128 ∨ 127 < a.toInt + 1 + 0 ↔ a.toInt = 127
    have := byte_toInt_bounds a
    omega
  · bv_omega

/-- The flags of DEC at the one byte each is about (R174). -/
theorem decFlags_eq (a : Byte) :
    subFlags a 0x01 =
      { res := a - 1, c := decide (a = 0x00), z := decide (a = 0x01), s := (a - 1)[7], o := decide (a = 0x80) } := by
  refine aluOut_eq (subFlags_res a 1) ?_ ?_ sub_eq_zero
  · rw [decide_eq_decide]
    change a.toNat < 1 ↔ _
    bv_omega
  · rw [signedOverflow_eq, decide_eq_decide, ← BitVec.toInt_inj]
    change a.toInt - 1 < -128 ∨ 127 < a.toInt - 1 ↔ a.toInt = -128
    have := byte_toInt_bounds a
    omega

/-! ### Overflow by the sign bits -/

theorem getElem_seven_eq_decide (a : Byte) : a[7] = decide (a.toInt < 0) :=
  calc a[7]
    _ = a.msb := rfl
    _ = decide (a.toInt < 0) := BitVec.msb_eq_toInt

/-- The wrapped sum's sign is wrong exactly when the summands' signs agree and the sum's differs from them. -/
theorem signedOverflow_add {x y : Int} (hx : -128 ≤ x ∧ x < 128) (hy : -128 ≤ y ∧ y < 128) (cin : Bool) :
    signedOverflow (x + y + cin.toNat) =
      (decide (x < 0) == decide (y < 0) && decide ((x + y + cin.toNat).bmod 256 < 0) != decide (x < 0)) := by
  have hcin := cin.toNat_le
  rw [signedOverflow_eq, Bool.eq_iff_iff]
  simp only [Bool.and_eq_true, beq_iff_eq, bne_iff_ne, decide_eq_true_eq, ne_eq, decide_eq_decide, Int.bmod_def]
  omega

/-- The wrapped difference's sign is wrong exactly when the signs differ and the difference's is not the first's. -/
theorem signedOverflow_sub {x y : Int} (hx : -128 ≤ x ∧ x < 128) (hy : -128 ≤ y ∧ y < 128) :
    signedOverflow (x - y) =
      (decide (x < 0) != decide (y < 0) && decide ((x - y).bmod 256 < 0) != decide (x < 0)) := by
  rw [signedOverflow_eq, Bool.eq_iff_iff]
  simp only [Bool.and_eq_true, bne_iff_ne, decide_eq_true_eq, ne_eq, decide_eq_decide, Int.bmod_def]
  omega

theorem addFlags_res_toInt (a b : Byte) (cin : Bool) :
    (addFlags a b cin).res.toInt = (a.toInt + b.toInt + cin.toNat).bmod 256 := by
  have hres : (addFlags a b cin).res = BitVec.ofNat 8 (a.toNat + b.toNat + cin.toNat) := rfl
  have hnat : ((a.toNat + b.toNat + cin.toNat : Nat) : Int) = a.toNat + b.toNat + cin.toNat := by push_cast; rfl
  rw [hres, BitVec.toInt_ofNat', hnat, BitVec.toInt_eq_toNat_bmod a, BitVec.toInt_eq_toNat_bmod b]
  simp only [Int.bmod_def]
  omega

/-! ### The obligations -/

/-- Settles O35: ADD is the sum without carry. -/
theorem addCompletes : Obligations.AddCompletes := by
  intro s
  have hout := addFlags_eq s.a s.b false Iff.rfl
  simp only [Bool.toNat_false, BitVec.add_zero, Nat.cast_zero, add_zero] at hout
  rw [← hout]
  exact completesAluGroup_of_exec rfl rfl rfl rfl rfl (fun _ => rfl) rfl rfl

/-- Settles O36: SUB is the difference. -/
theorem subCompletes : Obligations.SubCompletes := by
  intro s
  rw [← subFlags_eq s.a s.b sub_eq_zero]
  exact completesAluGroup_of_exec rfl rfl rfl rfl rfl (fun _ => rfl) rfl rfl

/-- Settles O37: ADC is the sum with the carry of before. -/
theorem adcCompletes : Obligations.AdcCompletes := by
  intro s
  rw [Nat.cast_ofNat, ← addFlags_eq s.a s.b s.sr[0] Iff.rfl]
  exact completesAluGroup_of_exec rfl rfl rfl rfl rfl (fun _ => rfl) rfl rfl

/-- Settles O38: the wide value of LSH as a shift of the byte. -/
theorem lshCompletes : Obligations.LshCompletes := by
  intro s
  rw [← lshFlags_eq s.a s.b]
  exact completesAluGroup_of_exec rfl rfl rfl rfl rfl (fun _ => rfl) rfl rfl

/-- Settles O39: the quotient of RSH as a shift of the byte. -/
theorem rshCompletes : Obligations.RshCompletes := by
  intro s
  rw [← rshFlags_eq s.a s.b]
  exact completesAluGroup_of_exec rfl rfl rfl rfl rfl (fun _ => rfl) rfl rfl

/-- Settles O40: the flags of a result without carry and overflow. -/
theorem orCompletes : Obligations.OrCompletes := by
  intro s
  rw [← logicFlags_eq]
  exact completesAluGroup_of_exec rfl rfl rfl rfl rfl (fun _ => rfl) rfl rfl

/-- Settles O41: the flags of a result without carry and overflow. -/
theorem andCompletes : Obligations.AndCompletes := by
  intro s
  rw [← logicFlags_eq]
  exact completesAluGroup_of_exec rfl rfl rfl rfl rfl (fun _ => rfl) rfl rfl

/-- Settles O42: the flags of a result without carry and overflow. -/
theorem xorCompletes : Obligations.XorCompletes := by
  intro s
  rw [← logicFlags_eq]
  exact completesAluGroup_of_exec rfl rfl rfl rfl rfl (fun _ => rfl) rfl rfl

/-- Settles O43: CMP writes the flags of the difference and no result. -/
theorem cmpCompletes : Obligations.CmpCompletes := by
  intro s
  refine ⟨(s.setFlags s.subOut).advance 1, rfl, ?_, rfl⟩
  rw [State.advance_sr, State.setFlags_sr, State.subOut, subFlags_eq s.a s.b sub_eq_zero]
  exact withFlags_flagsWritten s.sr _

/-- Settles O44: the sum and the difference with 1; where each flag is set is arithmetic of one byte. -/
theorem incDecComplete : Obligations.IncDecComplete := by
  intro s
  rw [← incFlags_eq, ← decFlags_eq]
  exact ⟨completesAluToRegister_of_aluTo (by decide) rfl, completesAluToRegister_of_aluTo (by decide) rfl⟩

/-- Settles O45: the signs of operands and result as bits. -/
theorem overflowBitFormulas : Obligations.OverflowBitFormulas := by
  intro a b cin
  have hadd : (addFlags a b cin).o = signedOverflow (a.toInt + b.toInt + cin.toNat) := rfl
  have hsub : (subFlags a b).o = signedOverflow (a.toInt - b.toInt) := rfl
  simp only [getElem_seven_eq_decide, hadd, hsub, addFlags_res_toInt, subFlags_res, BitVec.toInt_sub]
  exact ⟨signedOverflow_add (byte_toInt_bounds a) (byte_toInt_bounds b) cin,
    signedOverflow_sub (byte_toInt_bounds a) (byte_toInt_bounds b)⟩

end Sys2Proof.Machine
end

section
/-! IE and SR bits 6 to 4 (`60_exceptions.md` R234): what an instruction computes, tests and stores depends on SR
through the four flags alone, unless SR is its source operand. -/

namespace Sys2Proof.Machine

/-! ### Bytes with the same four flags -/

/-- The two SR values have the same CF, ZF, SF and OF. -/
def SameFlags (v w : Byte) : Prop := v.extractLsb' 0 4 = w.extractLsb' 0 4

theorem sameFlags_iff (v w : Byte) : SameFlags v w ↔ ∀ k < 4, v.getLsbD k = w.getLsbD k := by
  constructor
  · intro h k hk
    simpa [hk] using congrArg (·.getLsbD k) h
  · intro h
    apply BitVec.eq_of_getLsbD_eq
    intro k hk
    simp [hk, h k hk]

theorem sameFlags_withFlags (v w : Byte) (r : AluOut) : SameFlags (withFlags v r) (withFlags w r) := by
  refine (sameFlags_iff _ _).mpr fun k hk => ?_
  rw [withFlags, withFlags, getLsbD_ofBits, getLsbD_ofBits]
  match k with
  | 0 | 1 | 2 | 3 => rfl

theorem SameFlags.withCF {v w : Byte} (h : SameFlags v w) (b : Bool) : SameFlags (withCF v b) (withCF w b) := by
  refine (sameFlags_iff _ _).mpr fun k hk => ?_
  by_cases h0 : k = 0
  · subst h0
    exact (withCF_bit0 v b).trans (withCF_bit0 w b).symm
  · rw [getLsbD_withCF_of_ne v b h0, getLsbD_withCF_of_ne w b h0, (sameFlags_iff v w).mp h k hk]

theorem SameFlags.withOF {v w : Byte} (h : SameFlags v w) (b : Bool) : SameFlags (withOF v b) (withOF w b) := by
  refine (sameFlags_iff _ _).mpr fun k hk => ?_
  by_cases h3 : k = 3
  · subst h3
    exact (withOF_bit3 v b).trans (withOF_bit3 w b).symm
  · rw [getLsbD_withOF_of_ne v b h3, getLsbD_withOF_of_ne w b h3, (sameFlags_iff v w).mp h k hk]

/-! ### Instructions in two states with the same four flags -/

/-- With `v` in SR the instruction completes too, and its result differs from `t` in SR alone, with the same flags. -/
def CompletesAlike (i : Instr) (s t : State) (v : Byte) : Prop :=
  ∃ w, exec i (s.setSR v) = .next (t.setSR w) ∧ SameFlags w t.sr

section
variable {i : Instr} {s t : State} {v : Byte}

/-- What a write of an operand makes of a state with `v` in SR differs in SR alone. -/
theorem State.writeOp_setSR (s : State) (v : Byte) (dst : Operand) (res : Byte) :
    ∃ w, (s.setSR v).writeOp dst res = (s.writeOp dst res).setSR w := by
  cases dst with
  | reg r => cases r <;> exact ⟨_, rfl⟩
  | atSP | atXY => exact ⟨v, rfl⟩

theorem State.setFlags_setSR (s : State) (v : Byte) (r : AluOut) :
    (s.setSR v).setFlags r = (s.setFlags r).setSR (withFlags v r) := rfl

/-- An ALU instruction sees nothing of SR but CF, and overwrites the four flags. -/
theorem completesAlike_of_alu (op : Byte → Byte → Bool → AluOut) (dst : Operand)
    (hi : ∀ u, exec i u = .next (u.aluTo (op u.a u.b u.cf) dst)) (hv : SameFlags v s.sr) (h : exec i s = .next t) :
    CompletesAlike i s t v := by
  have hcf : (s.setSR v).cf = s.cf := (sameFlags_iff _ _).mp hv 0 (by decide)
  cases (hi s).symm.trans h
  obtain ⟨w, hw⟩ := s.writeOp_setSR v dst (op s.a s.b s.cf).res
  refine ⟨_, ?_, sameFlags_withFlags w _ _⟩
  rw [hi, hcf, State.setSR_a, State.setSR_b, State.aluTo, hw, State.setFlags_setSR]
  rfl

theorem completesAlike_of_aluMem (op : Byte → Byte → Bool → AluOut) (adr : Addr)
    (hi : ∀ u, exec i u = .next (u.aluToMem (op u.a u.b u.cf) adr)) (hv : SameFlags v s.sr) (h : exec i s = .next t) :
    CompletesAlike i s t v := by
  have hcf : (s.setSR v).cf = s.cf := (sameFlags_iff _ _).mp hv 0 (by decide)
  cases (hi s).symm.trans h
  rw [CompletesAlike, hi, hcf]
  exact ⟨_, rfl, sameFlags_withFlags _ _ _⟩

/-- An instruction that writes SR only, with the same flags where it finds the same flags. -/
theorem completesAlike_of_status (g : Byte → Byte → Byte → Byte)
    (hi : ∀ u, exec i u = .next ((u.setSR (g u.a u.b u.sr)).advance 1)) (hg : SameFlags (g s.a s.b v) (g s.a s.b s.sr))
    (h : exec i s = .next t) : CompletesAlike i s t v := by
  cases (hi s).symm.trans h
  exact ⟨g s.a s.b v, hi _, hg⟩

/-- The condition of a jump is one of the four flags. -/
theorem completesAlike_of_jumpIf (cond : Bool → Bool → Bool → Bool → Bool) (adr : Addr)
    (hi : ∀ u, exec i u = .next (u.jumpIf (cond u.cf u.zf u.sf u.of) adr)) (hv : SameFlags v s.sr)
    (h : exec i s = .next t) : CompletesAlike i s t v := by
  have hbit := (sameFlags_iff _ _).mp hv
  have hcf : (s.setSR v).cf = s.cf := hbit 0 (by decide)
  have hzf : (s.setSR v).zf = s.zf := hbit 1 (by decide)
  have hsf : (s.setSR v).sf = s.sf := hbit 2 (by decide)
  have hof : (s.setSR v).of = s.of := hbit 3 (by decide)
  cases (hi s).symm.trans h
  rw [CompletesAlike, hi, hcf, hzf, hsf, hof]
  exact ⟨v, rfl, hv⟩

end

/-- Every instruction but the three that read SR whole. -/
theorem exec_completesAlike {i : Instr} {s t : State} {v : Byte} (hv : SameFlags v s.sr) (hMov : i ≠ .movSRToA)
    (hStore : ∀ adr, i ≠ .movSRToMem adr) (hPush : i ≠ .pushSR) (h : exec i s = .next t) : CompletesAlike i s t v := by
  cases i with
  | movSRToA => exact absurd rfl hMov
  | movSRToMem adr => exact absurd rfl (hStore adr)
  | pushSR => exact absurd rfl hPush
  | movAToImm | movBToImm | movXToImm | movYToImm | movSPToImm | movSRToImm | movAtSPToImm | movAtXYToImm => cases h
  | movAToSR | movBToSR | movImmToSR | movMemToSR | popSR =>
    cases h
    exact ⟨_, rfl, rfl⟩
  | addA | addB | addX | addY | addSP | addAtSP | addAtXY =>
    exact completesAlike_of_alu (fun a b _ => addFlags a b false) _ (fun _ => rfl) hv h
  | subA | subB | subX | subY | subSP | subAtSP | subAtXY =>
    exact completesAlike_of_alu (fun a b _ => subFlags a b) _ (fun _ => rfl) hv h
  | adcA | adcB | adcX | adcY | adcSP | adcAtSP | adcAtXY =>
    exact completesAlike_of_alu addFlags _ (fun _ => rfl) hv h
  | lshA | lshB | lshX | lshY | lshSP | lshAtSP | lshAtXY =>
    exact completesAlike_of_alu (fun a b _ => lshFlags a b) _ (fun _ => rfl) hv h
  | rshA | rshB | rshX | rshY | rshSP | rshAtSP | rshAtXY =>
    exact completesAlike_of_alu (fun a b _ => rshFlags a b) _ (fun _ => rfl) hv h
  | orA | orB | orX | orY | orSP | orAtSP | orAtXY =>
    exact completesAlike_of_alu (fun a b _ => logicFlags (a ||| b)) _ (fun _ => rfl) hv h
  | andA | andB | andX | andY | andSP | andAtSP | andAtXY =>
    exact completesAlike_of_alu (fun a b _ => logicFlags (a &&& b)) _ (fun _ => rfl) hv h
  | xorA | xorB | xorX | xorY | xorSP | xorAtSP | xorAtXY =>
    exact completesAlike_of_alu (fun a b _ => logicFlags (a ^^^ b)) _ (fun _ => rfl) hv h
  | inc => exact completesAlike_of_alu (fun a _ _ => addFlags a 0x01 false) _ (fun _ => rfl) hv h
  | dec => exact completesAlike_of_alu (fun a _ _ => subFlags a 0x01) _ (fun _ => rfl) hv h
  | addMem adr => exact completesAlike_of_aluMem (fun a b _ => addFlags a b false) adr (fun _ => rfl) hv h
  | subMem adr => exact completesAlike_of_aluMem (fun a b _ => subFlags a b) adr (fun _ => rfl) hv h
  | adcMem adr => exact completesAlike_of_aluMem addFlags adr (fun _ => rfl) hv h
  | lshMem adr => exact completesAlike_of_aluMem (fun a b _ => lshFlags a b) adr (fun _ => rfl) hv h
  | rshMem adr => exact completesAlike_of_aluMem (fun a b _ => rshFlags a b) adr (fun _ => rfl) hv h
  | orMem adr => exact completesAlike_of_aluMem (fun a b _ => logicFlags (a ||| b)) adr (fun _ => rfl) hv h
  | andMem adr => exact completesAlike_of_aluMem (fun a b _ => logicFlags (a &&& b)) adr (fun _ => rfl) hv h
  | xorMem adr => exact completesAlike_of_aluMem (fun a b _ => logicFlags (a ^^^ b)) adr (fun _ => rfl) hv h
  | cmp =>
    exact completesAlike_of_status (fun a b sr => withFlags sr (subFlags a b)) (fun _ => rfl)
      (sameFlags_withFlags _ _ _) h
  | jmp adr => exact completesAlike_of_jumpIf (fun _ _ _ _ => true) adr (fun _ => rfl) hv h
  | jo adr => exact completesAlike_of_jumpIf (fun _ _ _ o => o) adr (fun _ => rfl) hv h
  | jno adr => exact completesAlike_of_jumpIf (fun _ _ _ o => !o) adr (fun _ => rfl) hv h
  | js adr => exact completesAlike_of_jumpIf (fun _ _ s _ => s) adr (fun _ => rfl) hv h
  | jns adr => exact completesAlike_of_jumpIf (fun _ _ s _ => !s) adr (fun _ => rfl) hv h
  | je adr => exact completesAlike_of_jumpIf (fun _ z _ _ => z) adr (fun _ => rfl) hv h
  | jne adr => exact completesAlike_of_jumpIf (fun _ z _ _ => !z) adr (fun _ => rfl) hv h
  | jb adr => exact completesAlike_of_jumpIf (fun c _ _ _ => c) adr (fun _ => rfl) hv h
  | jnb adr => exact completesAlike_of_jumpIf (fun c _ _ _ => !c) adr (fun _ => rfl) hv h
  | jbe adr => exact completesAlike_of_jumpIf (fun c z _ _ => c || z) adr (fun _ => rfl) hv h
  | ja adr => exact completesAlike_of_jumpIf (fun c z _ _ => !c && !z) adr (fun _ => rfl) hv h
  | jl adr => exact completesAlike_of_jumpIf (fun _ _ s o => s != o) adr (fun _ => rfl) hv h
  | jge adr => exact completesAlike_of_jumpIf (fun _ _ s o => s == o) adr (fun _ => rfl) hv h
  | jle adr => exact completesAlike_of_jumpIf (fun _ z s o => z || s != o) adr (fun _ => rfl) hv h
  | jg adr => exact completesAlike_of_jumpIf (fun _ z s o => !z && s == o) adr (fun _ => rfl) hv h
  | clc => exact completesAlike_of_status (fun _ _ sr => withCF sr false) (fun _ => rfl) (hv.withCF _) h
  | sec => exact completesAlike_of_status (fun _ _ sr => withCF sr true) (fun _ => rfl) (hv.withCF _) h
  | clo => exact completesAlike_of_status (fun _ _ sr => withOF sr false) (fun _ => rfl) (hv.withOF _) h
  | seo => exact completesAlike_of_status (fun _ _ sr => withOF sr true) (fun _ => rfl) (hv.withOF _) h
  | _ =>
    cases h
    exact ⟨v, rfl, hv⟩

/-! ### The obligation -/

/-- Settles O19: the same four flags in, the same four flags out. -/
theorem highSRBitsAreInert : Obligations.HighSRBitsAreInert := by
  intro i s t v hv hMov hStore hPush h
  exact exec_completesAlike hv hMov hStore hPush h

end Sys2Proof.Machine
end

section
/-! The jump pairs (`41_jump.md`): the conditions of the two jumps of a pair are opposite. -/

namespace Sys2Proof.Machine

/-- One of the two instructions goes to the target and the other to PC + 3, all else as before. -/
def ExactlyOneJumps (s : State) (adr : Addr) (p : Instr × Instr) : Prop :=
  (exec p.1 s = .next { s with pc := adr } ∧ exec p.2 s = .next { s with pc := s.pc + 3 }) ∨
    (exec p.1 s = .next { s with pc := s.pc + 3 } ∧ exec p.2 s = .next { s with pc := adr })

theorem JumpsWhen.exactlyOneJumps {i j : Instr} {s : State} {adr : Addr} {p q : Prop} [Decidable p] [Decidable q]
    (hi : JumpsWhen i s adr p) (hj : JumpsWhen j s adr q) (hpq : q ↔ ¬p) : ExactlyOneJumps s adr (i, j) := by
  rw [JumpsWhen] at hi hj
  by_cases hp : p
  · have hq : ¬q := fun hq => hpq.mp hq hp
    rw [if_pos hp] at hi
    rw [if_neg hq] at hj
    exact .inl ⟨hi, hj⟩
  · rw [if_neg hp] at hi
    rw [if_pos (hpq.mpr hp)] at hj
    exact .inr ⟨hi, hj⟩

/-! ### The obligation -/

/-- Settles O49: for each pair, when its two jumps are taken. -/
theorem jumpPairsAreOpposite : Obligations.JumpPairsAreOpposite := by
  intro s adr
  have pairs : ∀ p ∈ [(Instr.jo adr, Instr.jno adr), (.js adr, .jns adr), (.je adr, .jne adr), (.jb adr, .jnb adr),
      (.jbe adr, .ja adr), (.jl adr, .jge adr), (.jle adr, .jg adr)], ExactlyOneJumps s adr p := by
    simp only [List.forall_mem_cons, List.not_mem_nil, IsEmpty.forall_iff, implies_true, and_true]
    exact ⟨(jo_jumpsWhen s adr).exactlyOneJumps (jno_jumpsWhen s adr) (by simp),
      (js_jumpsWhen s adr).exactlyOneJumps (jns_jumpsWhen s adr) (by simp),
      (je_jumpsWhen s adr).exactlyOneJumps (jne_jumpsWhen s adr) (by simp),
      (jb_jumpsWhen s adr).exactlyOneJumps (jnb_jumpsWhen s adr) (by simp),
      (jbe_jumpsWhen s adr).exactlyOneJumps (ja_jumpsWhen s adr) (by simp),
      (jl_jumpsWhen s adr).exactlyOneJumps (jge_jumpsWhen s adr) (by simp),
      (jle_jumpsWhen s adr).exactlyOneJumps (jg_jumpsWhen s adr) (by simp)⟩
  exact pairs

end Sys2Proof.Machine
end
